-- ==== Sys2Proof/Word.lean ====
section
/-! DEFINITION. The two data widths of the machine (R10, R21): a byte is eight bits, an address or a register pair
sixteen. All arithmetic on them wraps (R11, R219), which is what `BitVec` arithmetic does. -/

namespace Sys2Proof

/-- The spec's `u8`, the source's Byte (R10, R14). -/
abbrev Byte := BitVec 8

/-- The spec's `u16`: an address, a register pair, SP or PC (R10, R14). -/
abbrev Word := BitVec 16

end Sys2Proof
end

