-- ==== Sys2Proof/Config.lean ====
section
/-! DEFINITION. The implementation parameters of R20, each at the value the spec decides, and the one free value of the
model: what a platform device answers to a bus read. P10 and P11 (the component list and CORE's place in it) are state
of the model, `State.before` and `State.after`; P12 (costs) stands in the meanings and in `costTable` (Safety.lean); P13 (`EI_DELAY`)
is 0, which is what `EI` does; P15 to P17 (field codes, opcode map, byte order) are the decoder and the 16-bit
accesses; P18 (CORE is clocked last) is the order of `State.beginCycle`. -/

namespace Sys2Proof.Config

/-- P1, `ADDR_IE`: the interrupt-enable register's bus address. -/
abbrev addrIE : Word := 0xFFFF

/-- P2, `ADDR_IF`: the interrupt-flag register's bus address. -/
abbrev addrIF : Word := 0xFF0F

/-- P3, `HRAM_START`: the first address of the fast RAM. -/
abbrev hramStart : Word := 0xFF80

/-- P3, `HRAM_END`: the last address of the fast RAM. -/
abbrev hramEnd : Word := 0xFFFE

/-- P4, `INT_VECTOR_BASE`: the service address of source 0. -/
abbrev intVectorBase : Word := 0x0040

/-- P5, `INT_DISPATCH_COST`: the cycles an interrupt dispatch is charged. -/
abbrev intDispatchCost : Nat := 5

/-- P6, `PREFIX`: the escape opcode that selects the secondary table. -/
abbrev escapeByte : Byte := 0xCB

/-- P7, `HIGH_PAGE`: the base of the 8-bit-offset addressing forms. -/
abbrev highPage : Word := 0xFF00

/-- P8, `OPEN_BUS_BYTE`: what a bus read returns when no component answers. -/
abbrev openBusByte : Byte := 0xFF

/-- P9, `RESET_PC`: the address of the first fetch after reset. -/
abbrev resetPC : Word := 0x0000

/-- What a cell of a RAM or ROM that nothing has written reads as. R564 gives 0x00 for the fast RAM; for a platform
component the spec gives no content, and 0x00 is this model's choice (DESIGN CHOICE, assumption 3). -/
abbrev unwrittenByte : Byte := 0x00

/-- FREE VALUE (R35: a component's answer is "an oracle the platform supplies"). What device `device` answers in cycle
`cycle` to a read of `addr`, for an opcode or operand fetch (`fetch`) or for data. It has no body: nothing constrains
it. CORE reads one address at most once for each of the two kinds in one cycle (R504), so every read of a run has an
answer of its own (assumption 6). -/
opaque deviceAnswer (device cycle : Nat) (fetch : Bool) (addr : Word) : Option Byte

end Sys2Proof.Config
end

