-- ==== Sys2Proof/Form.lean ====
section
/-! DEFINITION. The operand alphabets of the instruction set (R50, R153 to R156, R161, R163) and the instruction FORMS
of R167, each with its operands. `Instr` (Syntax.lean) has one constructor per row of the opcode table; `Instr.form`
(Decode.lean) says which form a row is an encoding of. The 24 accumulator forms `op A,r8`, `op A,[HL]`, `op A,n8` are
three constructors over `AluOp`, and the 16 rotate and shift forms two over `ShiftOp`, as the encoding has it. -/

namespace Sys2Proof

/-- The eight storage slots of the register file, in array order (R50). -/
inductive Reg where
  | A | F | B | C | D | E | H | L
deriving DecidableEq, Repr

/-- What a 3-bit register field other than `0b110` selects (R153, R55): never F. -/
inductive Reg8 where
  | B | C | D | E | H | L | A
deriving DecidableEq, Repr

/-- The four derived pairs of the register file (R53). -/
inductive Pair where
  | AF | BC | DE | HL
deriving DecidableEq, Repr

/-- The first 2-bit pair table (R154): `LD r16,n16`, `INC r16`, `DEC r16`, `ADD HL,r16`. -/
inductive R16 where
  | BC | DE | HL | SP
deriving DecidableEq, Repr

/-- The 2-bit condition field (R156). -/
inductive Cond where
  | NZ | Z | NC | C
deriving DecidableEq, Repr

/-- The accumulator operation code `y` of R161, in code order. -/
inductive AluOp where
  | ADD | ADC | SUB | SBC | AND | XOR | OR | CP
deriving DecidableEq, Repr

/-- The rotate and shift code `y` of R163, in code order. -/
inductive ShiftOp where
  | RLC | RRC | RL | RR | SLA | SRA | SWAP | SRL
deriving DecidableEq, Repr

/-- The one-byte accumulator rotates of R400 to R403. -/
inductive AccRot where
  | RLCA | RRCA | RLA | RRA
deriving DecidableEq, Repr

/-- A byte operand: a register, or the byte at the address in HL (R153, field value `0b110`). -/
inductive Opd8 where
  | reg (r : Reg8)
  | atHL
deriving DecidableEq, Repr

/-- The instruction forms (R167), with their operands. `n` is an immediate byte, `e` a displacement byte, `w` an
immediate word, `u` a bit index, `v` a restart number. -/
inductive Form where
  -- 41_load8.md
  | ldR8R8 (d r : Reg8)
  | ldR8N8 (d : Reg8) (n : Byte)
  | ldR8HL (d : Reg8)
  | ldHLR8 (r : Reg8)
  | ldHLN8 (n : Byte)
  | ldABC
  | ldADE
  | ldBCA
  | ldDEA
  | ldAN16 (w : Word)
  | ldN16A (w : Word)
  | ldhAN8 (n : Byte)
  | ldhN8A (n : Byte)
  | ldhAC
  | ldhCA
  | ldAHLInc
  | ldAHLDec
  | ldHLIncA
  | ldHLDecA
  -- 42_load16_stack.md
  | ldR16N16 (p : R16) (w : Word)
  | ldN16SP (w : Word)
  | ldSPHL
  | push (q : Pair)
  | pop (q : Pair)
  -- 43_arith8.md
  | aluR8 (op : AluOp) (r : Reg8)
  | aluHL (op : AluOp)
  | aluN8 (op : AluOp) (n : Byte)
  | incR8 (d : Reg8)
  | incHL
  | decR8 (d : Reg8)
  | decHL
  | daa
  | cpl
  | scf
  | ccf
  -- 44_arith16.md
  | addHLR16 (p : R16)
  | incR16 (p : R16)
  | decR16 (p : R16)
  | addSPE8 (e : Byte)
  | ldHLSPE8 (e : Byte)
  -- 45_rotate_shift_bit.md
  | accRot (op : AccRot)
  | shiftR8 (op : ShiftOp) (r : Reg8)
  | shiftHL (op : ShiftOp)
  | bitR8 (u : BitVec 3) (r : Reg8)
  | bitHL (u : BitVec 3)
  | resR8 (u : BitVec 3) (r : Reg8)
  | resHL (u : BitVec 3)
  | setR8 (u : BitVec 3) (r : Reg8)
  | setHL (u : BitVec 3)
  -- 46_control_flow.md
  | jpN16 (w : Word)
  | jpCC (c : Cond) (w : Word)
  | jpHL
  | jrE8 (e : Byte)
  | jrCC (c : Cond) (e : Byte)
  | callN16 (w : Word)
  | callCC (c : Cond) (w : Word)
  | ret
  | retCC (c : Cond)
  | reti
  | rst (v : BitVec 3)
  -- 47_system.md
  | nop
  | halt
  | stop
  | di
  | ei
  /-- One of the eleven primary bytes with no descriptor (R164, R485). -/
  | illegal (op : Byte)
deriving DecidableEq, Repr

end Sys2Proof
end

