-- ==== Sys2Proof/Machine/Bits.lean ====
section
/-! DEFINITION. The bit primitives of R11 and R12 as total functions on typed values, and the byte order of R110. -/

namespace Sys2Proof.Machine

/-- `mask(i) = 1 << i`, `i` in 0..31 (R12). -/
def Bits.mask (i : Fin 32) : BitVec 32 := BitVec.twoPow 32 i.val

/-- `test(bits, i)`: bit `i` is 1 (R12). -/
def Bits.test {w : Nat} (bits : BitVec w) (i : Nat) : Bool := bits.getLsbD i

/-- `set(bits, i, v)`: `bits` with bit `i` replaced by `v` (R12). -/
def Bits.set {w : Nat} (bits : BitVec w) (i : Nat) (v : Bool) : BitVec w :=
  if v then bits ||| BitVec.twoPow w i else bits &&& ~~~ BitVec.twoPow w i

/-- `clip(n, bits) = bits[n-1:0]`, as an `n`-bit value (R12). -/
def Bits.clip {w : Nat} (n : Nat) (bits : BitVec w) : BitVec n := bits.setWidth n

/-- `extract(bits, start, size) = bits[start+size-1 : start]`, as a `size`-bit value (R12). -/
def Bits.extract {w : Nat} (bits : BitVec w) (start size : Nat) : BitVec size := bits.extractLsb' start size

/-- `rotate(size, bits, d)`: the low `size` bits of `bits` rotated left by `d mod size` places, the modulus being the
mathematical one, so that a negative `d` rotates right (R12). -/
def Bits.rotate {w : Nat} (size : Nat) (bits : BitVec w) (d : Int) : BitVec size :=
  (Bits.clip size bits).rotateLeft (d % (size : Int)).toNat

/-- `signExtend8(b) = sext_16(b)` (R12, R13). -/
def Bits.sext16 (b : Byte) : Word := b.signExtend 16

/-- `zext_16(b)` (R13). -/
def Bits.zext16 (b : Byte) : Word := b.setWidth 16

/-- `reverse8(b)`: bit `i` of the result is bit `7-i` of `b`; no rule of CORE uses it (R12). -/
def Bits.reverse8 (b : Byte) : Byte := b.reverse

/-- `complement8(b) = b XOR 0xFF` (R12). -/
def Bits.complement8 (b : Byte) : Byte := b ^^^ 0xFF

/-- `make16(high, low) = high ‖ low` (R11, R12). -/
def Bits.make16 (high low : Byte) : Word := high ++ low

/-- The high byte `v[15:8]` of a word. -/
def Bits.high (v : Word) : Byte := Bits.extract v 8 8

/-- The low byte `v[7:0]` of a word. -/
def Bits.low (v : Word) : Byte := Bits.clip 8 v

end Sys2Proof.Machine
end

