-- ==== Sys2Proof/Decode.lean ====
section
/-! DEFINITION. The decoder (R151, R152, R158): the two 256-entry tables as the spec's grids lay them out, and the
choice between them by the escape byte. Then the form of every row (R167), the lengths (R158), and the encoder, which is
written from the field codes of R153 to R163 and not from the grids. -/

namespace Sys2Proof

open Sys2Proof.Machine (Bits.make16 Bits.high Bits.low)

/-! ### The secondary table (R163): row `h`, column `l` is the byte `hl` after the escape byte -/

/-- Row 0x of the secondary table (R163). -/
def secondaryRow0 : List Instr :=
  [.rlc_B, .rlc_C, .rlc_D, .rlc_E, .rlc_H, .rlc_L, .rlc_mHL, .rlc_A, .rrc_B, .rrc_C, .rrc_D, .rrc_E, .rrc_H, .rrc_L,
   .rrc_mHL, .rrc_A]

/-- Row 1x of the secondary table (R163). -/
def secondaryRow1 : List Instr :=
  [.rl_B, .rl_C, .rl_D, .rl_E, .rl_H, .rl_L, .rl_mHL, .rl_A, .rr_B, .rr_C, .rr_D, .rr_E, .rr_H, .rr_L, .rr_mHL, .rr_A]

/-- Row 2x of the secondary table (R163). -/
def secondaryRow2 : List Instr :=
  [.sla_B, .sla_C, .sla_D, .sla_E, .sla_H, .sla_L, .sla_mHL, .sla_A, .sra_B, .sra_C, .sra_D, .sra_E, .sra_H, .sra_L,
   .sra_mHL, .sra_A]

/-- Row 3x of the secondary table (R163). -/
def secondaryRow3 : List Instr :=
  [.swap_B, .swap_C, .swap_D, .swap_E, .swap_H, .swap_L, .swap_mHL, .swap_A, .srl_B, .srl_C, .srl_D, .srl_E, .srl_H,
   .srl_L, .srl_mHL, .srl_A]

/-- Row 4x of the secondary table (R163). -/
def secondaryRow4 : List Instr :=
  [.bit_0_B, .bit_0_C, .bit_0_D, .bit_0_E, .bit_0_H, .bit_0_L, .bit_0_mHL, .bit_0_A, .bit_1_B, .bit_1_C, .bit_1_D,
   .bit_1_E, .bit_1_H, .bit_1_L, .bit_1_mHL, .bit_1_A]

/-- Row 5x of the secondary table (R163). -/
def secondaryRow5 : List Instr :=
  [.bit_2_B, .bit_2_C, .bit_2_D, .bit_2_E, .bit_2_H, .bit_2_L, .bit_2_mHL, .bit_2_A, .bit_3_B, .bit_3_C, .bit_3_D,
   .bit_3_E, .bit_3_H, .bit_3_L, .bit_3_mHL, .bit_3_A]

/-- Row 6x of the secondary table (R163). -/
def secondaryRow6 : List Instr :=
  [.bit_4_B, .bit_4_C, .bit_4_D, .bit_4_E, .bit_4_H, .bit_4_L, .bit_4_mHL, .bit_4_A, .bit_5_B, .bit_5_C, .bit_5_D,
   .bit_5_E, .bit_5_H, .bit_5_L, .bit_5_mHL, .bit_5_A]

/-- Row 7x of the secondary table (R163). -/
def secondaryRow7 : List Instr :=
  [.bit_6_B, .bit_6_C, .bit_6_D, .bit_6_E, .bit_6_H, .bit_6_L, .bit_6_mHL, .bit_6_A, .bit_7_B, .bit_7_C, .bit_7_D,
   .bit_7_E, .bit_7_H, .bit_7_L, .bit_7_mHL, .bit_7_A]

/-- Row 8x of the secondary table (R163). -/
def secondaryRow8 : List Instr :=
  [.res_0_B, .res_0_C, .res_0_D, .res_0_E, .res_0_H, .res_0_L, .res_0_mHL, .res_0_A, .res_1_B, .res_1_C, .res_1_D,
   .res_1_E, .res_1_H, .res_1_L, .res_1_mHL, .res_1_A]

/-- Row 9x of the secondary table (R163). -/
def secondaryRow9 : List Instr :=
  [.res_2_B, .res_2_C, .res_2_D, .res_2_E, .res_2_H, .res_2_L, .res_2_mHL, .res_2_A, .res_3_B, .res_3_C, .res_3_D,
   .res_3_E, .res_3_H, .res_3_L, .res_3_mHL, .res_3_A]

/-- Row Ax of the secondary table (R163). -/
def secondaryRowA : List Instr :=
  [.res_4_B, .res_4_C, .res_4_D, .res_4_E, .res_4_H, .res_4_L, .res_4_mHL, .res_4_A, .res_5_B, .res_5_C, .res_5_D,
   .res_5_E, .res_5_H, .res_5_L, .res_5_mHL, .res_5_A]

/-- Row Bx of the secondary table (R163). -/
def secondaryRowB : List Instr :=
  [.res_6_B, .res_6_C, .res_6_D, .res_6_E, .res_6_H, .res_6_L, .res_6_mHL, .res_6_A, .res_7_B, .res_7_C, .res_7_D,
   .res_7_E, .res_7_H, .res_7_L, .res_7_mHL, .res_7_A]

/-- Row Cx of the secondary table (R163). -/
def secondaryRowC : List Instr :=
  [.set_0_B, .set_0_C, .set_0_D, .set_0_E, .set_0_H, .set_0_L, .set_0_mHL, .set_0_A, .set_1_B, .set_1_C, .set_1_D,
   .set_1_E, .set_1_H, .set_1_L, .set_1_mHL, .set_1_A]

/-- Row Dx of the secondary table (R163). -/
def secondaryRowD : List Instr :=
  [.set_2_B, .set_2_C, .set_2_D, .set_2_E, .set_2_H, .set_2_L, .set_2_mHL, .set_2_A, .set_3_B, .set_3_C, .set_3_D,
   .set_3_E, .set_3_H, .set_3_L, .set_3_mHL, .set_3_A]

/-- Row Ex of the secondary table (R163). -/
def secondaryRowE : List Instr :=
  [.set_4_B, .set_4_C, .set_4_D, .set_4_E, .set_4_H, .set_4_L, .set_4_mHL, .set_4_A, .set_5_B, .set_5_C, .set_5_D,
   .set_5_E, .set_5_H, .set_5_L, .set_5_mHL, .set_5_A]

/-- Row Fx of the secondary table (R163). -/
def secondaryRowF : List Instr :=
  [.set_6_B, .set_6_C, .set_6_D, .set_6_E, .set_6_H, .set_6_L, .set_6_mHL, .set_6_A, .set_7_B, .set_7_C, .set_7_D,
   .set_7_E, .set_7_H, .set_7_L, .set_7_mHL, .set_7_A]

/-- Row `h` of the secondary table (R151); `h` is the high half of a byte, so the last row is row 15. -/
def secondaryRow (h : Nat) : List Instr :=
  match h with
  | 0 => secondaryRow0
  | 1 => secondaryRow1
  | 2 => secondaryRow2
  | 3 => secondaryRow3
  | 4 => secondaryRow4
  | 5 => secondaryRow5
  | 6 => secondaryRow6
  | 7 => secondaryRow7
  | 8 => secondaryRow8
  | 9 => secondaryRow9
  | 10 => secondaryRowA
  | 11 => secondaryRowB
  | 12 => secondaryRowC
  | 13 => secondaryRowD
  | 14 => secondaryRowE
  | _ => secondaryRowF

theorem secondaryRow_length (h : Nat) : (secondaryRow h).length = 16 := by
  unfold secondaryRow
  split <;> rfl

/-- The secondary table's entry for the byte after the escape byte; every entry is defined (R163). -/
def secondary (op2 : Byte) : Instr :=
  (secondaryRow (op2.toNat / 16))[op2.toNat % 16]'(by rw [secondaryRow_length]; exact Nat.mod_lt _ (by decide))

/-! ### The primary table (R168): row `h`, column `l` is the opcode `hl`; `b1` and `b2` are the two bytes after it.
An 8-bit immediate is `b1`, a 16-bit one `b2 ‖ b1` (R157). The slot of the escape byte leads to the secondary table. -/

/-- Row 0x of the primary table (R168). -/
def primaryRow0 (b1 b2 : Byte) : List Instr :=
  [.nop, .ld_BC_n16 (Bits.make16 b2 b1), .ld_mBC_A, .inc_BC, .inc_B, .dec_B, .ld_B_n8 b1, .rlca,
   .ld_mN16_SP (Bits.make16 b2 b1), .add_HL_BC, .ld_A_mBC, .dec_BC, .inc_C, .dec_C, .ld_C_n8 b1, .rrca]

/-- Row 1x of the primary table (R168). -/
def primaryRow1 (b1 b2 : Byte) : List Instr :=
  [.stop, .ld_DE_n16 (Bits.make16 b2 b1), .ld_mDE_A, .inc_DE, .inc_D, .dec_D, .ld_D_n8 b1, .rla, .jr_e8 b1,
   .add_HL_DE, .ld_A_mDE, .dec_DE, .inc_E, .dec_E, .ld_E_n8 b1, .rra]

/-- Row 2x of the primary table (R168). -/
def primaryRow2 (b1 b2 : Byte) : List Instr :=
  [.jr_NZ_e8 b1, .ld_HL_n16 (Bits.make16 b2 b1), .ld_mHLinc_A, .inc_HL, .inc_H, .dec_H, .ld_H_n8 b1, .daa,
   .jr_Z_e8 b1, .add_HL_HL, .ld_A_mHLinc, .dec_HL, .inc_L, .dec_L, .ld_L_n8 b1, .cpl]

/-- Row 3x of the primary table (R168). -/
def primaryRow3 (b1 b2 : Byte) : List Instr :=
  [.jr_NC_e8 b1, .ld_SP_n16 (Bits.make16 b2 b1), .ld_mHLdec_A, .inc_SP, .inc_mHL, .dec_mHL, .ld_mHL_n8 b1, .scf,
   .jr_C_e8 b1, .add_HL_SP, .ld_A_mHLdec, .dec_SP, .inc_A, .dec_A, .ld_A_n8 b1, .ccf]

/-- Row 4x of the primary table (R168). -/
def primaryRow4 : List Instr :=
  [.ld_B_B, .ld_B_C, .ld_B_D, .ld_B_E, .ld_B_H, .ld_B_L, .ld_B_mHL, .ld_B_A, .ld_C_B, .ld_C_C, .ld_C_D, .ld_C_E,
   .ld_C_H, .ld_C_L, .ld_C_mHL, .ld_C_A]

/-- Row 5x of the primary table (R168). -/
def primaryRow5 : List Instr :=
  [.ld_D_B, .ld_D_C, .ld_D_D, .ld_D_E, .ld_D_H, .ld_D_L, .ld_D_mHL, .ld_D_A, .ld_E_B, .ld_E_C, .ld_E_D, .ld_E_E,
   .ld_E_H, .ld_E_L, .ld_E_mHL, .ld_E_A]

/-- Row 6x of the primary table (R168). -/
def primaryRow6 : List Instr :=
  [.ld_H_B, .ld_H_C, .ld_H_D, .ld_H_E, .ld_H_H, .ld_H_L, .ld_H_mHL, .ld_H_A, .ld_L_B, .ld_L_C, .ld_L_D, .ld_L_E,
   .ld_L_H, .ld_L_L, .ld_L_mHL, .ld_L_A]

/-- Row 7x of the primary table (R168). -/
def primaryRow7 : List Instr :=
  [.ld_mHL_B, .ld_mHL_C, .ld_mHL_D, .ld_mHL_E, .ld_mHL_H, .ld_mHL_L, .halt, .ld_mHL_A, .ld_A_B, .ld_A_C, .ld_A_D,
   .ld_A_E, .ld_A_H, .ld_A_L, .ld_A_mHL, .ld_A_A]

/-- Row 8x of the primary table (R168). -/
def primaryRow8 : List Instr :=
  [.add_A_B, .add_A_C, .add_A_D, .add_A_E, .add_A_H, .add_A_L, .add_A_mHL, .add_A_A, .adc_A_B, .adc_A_C, .adc_A_D,
   .adc_A_E, .adc_A_H, .adc_A_L, .adc_A_mHL, .adc_A_A]

/-- Row 9x of the primary table (R168). -/
def primaryRow9 : List Instr :=
  [.sub_A_B, .sub_A_C, .sub_A_D, .sub_A_E, .sub_A_H, .sub_A_L, .sub_A_mHL, .sub_A_A, .sbc_A_B, .sbc_A_C, .sbc_A_D,
   .sbc_A_E, .sbc_A_H, .sbc_A_L, .sbc_A_mHL, .sbc_A_A]

/-- Row Ax of the primary table (R168). -/
def primaryRowA : List Instr :=
  [.and_A_B, .and_A_C, .and_A_D, .and_A_E, .and_A_H, .and_A_L, .and_A_mHL, .and_A_A, .xor_A_B, .xor_A_C, .xor_A_D,
   .xor_A_E, .xor_A_H, .xor_A_L, .xor_A_mHL, .xor_A_A]

/-- Row Bx of the primary table (R168). -/
def primaryRowB : List Instr :=
  [.or_A_B, .or_A_C, .or_A_D, .or_A_E, .or_A_H, .or_A_L, .or_A_mHL, .or_A_A, .cp_A_B, .cp_A_C, .cp_A_D, .cp_A_E,
   .cp_A_H, .cp_A_L, .cp_A_mHL, .cp_A_A]

/-- Row Cx of the primary table (R168). -/
def primaryRowC (b1 b2 : Byte) : List Instr :=
  [.ret_NZ, .pop_BC, .jp_NZ_n16 (Bits.make16 b2 b1), .jp_n16 (Bits.make16 b2 b1), .call_NZ_n16 (Bits.make16 b2 b1),
   .push_BC, .add_A_n8 b1, .rst_00, .ret_Z, .ret, .jp_Z_n16 (Bits.make16 b2 b1), secondary b1,
   .call_Z_n16 (Bits.make16 b2 b1), .call_n16 (Bits.make16 b2 b1), .adc_A_n8 b1, .rst_08]

/-- Row Dx of the primary table (R168). -/
def primaryRowD (b1 b2 : Byte) : List Instr :=
  [.ret_NC, .pop_DE, .jp_NC_n16 (Bits.make16 b2 b1), .illegal_D3, .call_NC_n16 (Bits.make16 b2 b1), .push_DE,
   .sub_A_n8 b1, .rst_10, .ret_C, .reti, .jp_C_n16 (Bits.make16 b2 b1), .illegal_DB, .call_C_n16 (Bits.make16 b2 b1),
   .illegal_DD, .sbc_A_n8 b1, .rst_18]

/-- Row Ex of the primary table (R168). -/
def primaryRowE (b1 b2 : Byte) : List Instr :=
  [.ldh_mN8_A b1, .pop_HL, .ldh_mC_A, .illegal_E3, .illegal_E4, .push_HL, .and_A_n8 b1, .rst_20, .add_SP_e8 b1,
   .jp_HL, .ld_mN16_A (Bits.make16 b2 b1), .illegal_EB, .illegal_EC, .illegal_ED, .xor_A_n8 b1, .rst_28]

/-- Row Fx of the primary table (R168). -/
def primaryRowF (b1 b2 : Byte) : List Instr :=
  [.ldh_A_mN8 b1, .pop_AF, .ldh_A_mC, .di, .illegal_F4, .push_AF, .or_A_n8 b1, .rst_30, .ld_HL_SPe8 b1, .ld_SP_HL,
   .ld_A_mN16 (Bits.make16 b2 b1), .ei, .illegal_FC, .illegal_FD, .cp_A_n8 b1, .rst_38]

/-- Row `h` of the primary table (R151); `h` is the high half of a byte, so the last row is row 15. -/
def primaryRow (h : Nat) (b1 b2 : Byte) : List Instr :=
  match h with
  | 0 => primaryRow0 b1 b2
  | 1 => primaryRow1 b1 b2
  | 2 => primaryRow2 b1 b2
  | 3 => primaryRow3 b1 b2
  | 4 => primaryRow4
  | 5 => primaryRow5
  | 6 => primaryRow6
  | 7 => primaryRow7
  | 8 => primaryRow8
  | 9 => primaryRow9
  | 10 => primaryRowA
  | 11 => primaryRowB
  | 12 => primaryRowC b1 b2
  | 13 => primaryRowD b1 b2
  | 14 => primaryRowE b1 b2
  | _ => primaryRowF b1 b2

theorem primaryRow_length (h : Nat) (b1 b2 : Byte) : (primaryRow h b1 b2).length = 16 := by
  unfold primaryRow
  split <;> rfl

/-- The primary table's entry for an opcode. -/
def primary (op b1 b2 : Byte) : Instr :=
  (primaryRow (op.toNat / 16) b1 b2)[op.toNat % 16]'(by rw [primaryRow_length]; exact Nat.mod_lt _ (by decide))

/-- The instruction that starts with the bytes `op`, `b1`, `b2`: with the escape byte first, the secondary table
decides on the next byte, otherwise the primary table on the first (R152). Bytes past the instruction's length are not
looked at. -/
def decode3 (op b1 b2 : Byte) : Instr :=
  if op = Config.escapeByte then secondary b1 else primary op b1 b2

/-! ### Forms and lengths -/

/-- The form a row of the opcode table is an encoding of, with its operands (R167). -/
def Instr.form (i : Instr) : Form :=
  match i with
  | .nop => .nop
  | .ld_BC_n16 n16 => .ldR16N16 .BC n16
  | .ld_mBC_A => .ldBCA
  | .inc_BC => .incR16 .BC
  | .inc_B => .incR8 .B
  | .dec_B => .decR8 .B
  | .ld_B_n8 n8 => .ldR8N8 .B n8
  | .rlca => .accRot .RLCA
  | .ld_mN16_SP n16 => .ldN16SP n16
  | .add_HL_BC => .addHLR16 .BC
  | .ld_A_mBC => .ldABC
  | .dec_BC => .decR16 .BC
  | .inc_C => .incR8 .C
  | .dec_C => .decR8 .C
  | .ld_C_n8 n8 => .ldR8N8 .C n8
  | .rrca => .accRot .RRCA
  | .stop => .stop
  | .ld_DE_n16 n16 => .ldR16N16 .DE n16
  | .ld_mDE_A => .ldDEA
  | .inc_DE => .incR16 .DE
  | .inc_D => .incR8 .D
  | .dec_D => .decR8 .D
  | .ld_D_n8 n8 => .ldR8N8 .D n8
  | .rla => .accRot .RLA
  | .jr_e8 e8 => .jrE8 e8
  | .add_HL_DE => .addHLR16 .DE
  | .ld_A_mDE => .ldADE
  | .dec_DE => .decR16 .DE
  | .inc_E => .incR8 .E
  | .dec_E => .decR8 .E
  | .ld_E_n8 n8 => .ldR8N8 .E n8
  | .rra => .accRot .RRA
  | .jr_NZ_e8 e8 => .jrCC .NZ e8
  | .ld_HL_n16 n16 => .ldR16N16 .HL n16
  | .ld_mHLinc_A => .ldHLIncA
  | .inc_HL => .incR16 .HL
  | .inc_H => .incR8 .H
  | .dec_H => .decR8 .H
  | .ld_H_n8 n8 => .ldR8N8 .H n8
  | .daa => .daa
  | .jr_Z_e8 e8 => .jrCC .Z e8
  | .add_HL_HL => .addHLR16 .HL
  | .ld_A_mHLinc => .ldAHLInc
  | .dec_HL => .decR16 .HL
  | .inc_L => .incR8 .L
  | .dec_L => .decR8 .L
  | .ld_L_n8 n8 => .ldR8N8 .L n8
  | .cpl => .cpl
  | .jr_NC_e8 e8 => .jrCC .NC e8
  | .ld_SP_n16 n16 => .ldR16N16 .SP n16
  | .ld_mHLdec_A => .ldHLDecA
  | .inc_SP => .incR16 .SP
  | .inc_mHL => .incHL
  | .dec_mHL => .decHL
  | .ld_mHL_n8 n8 => .ldHLN8 n8
  | .scf => .scf
  | .jr_C_e8 e8 => .jrCC .C e8
  | .add_HL_SP => .addHLR16 .SP
  | .ld_A_mHLdec => .ldAHLDec
  | .dec_SP => .decR16 .SP
  | .inc_A => .incR8 .A
  | .dec_A => .decR8 .A
  | .ld_A_n8 n8 => .ldR8N8 .A n8
  | .ccf => .ccf
  | .ld_B_B => .ldR8R8 .B .B
  | .ld_B_C => .ldR8R8 .B .C
  | .ld_B_D => .ldR8R8 .B .D
  | .ld_B_E => .ldR8R8 .B .E
  | .ld_B_H => .ldR8R8 .B .H
  | .ld_B_L => .ldR8R8 .B .L
  | .ld_B_mHL => .ldR8HL .B
  | .ld_B_A => .ldR8R8 .B .A
  | .ld_C_B => .ldR8R8 .C .B
  | .ld_C_C => .ldR8R8 .C .C
  | .ld_C_D => .ldR8R8 .C .D
  | .ld_C_E => .ldR8R8 .C .E
  | .ld_C_H => .ldR8R8 .C .H
  | .ld_C_L => .ldR8R8 .C .L
  | .ld_C_mHL => .ldR8HL .C
  | .ld_C_A => .ldR8R8 .C .A
  | .ld_D_B => .ldR8R8 .D .B
  | .ld_D_C => .ldR8R8 .D .C
  | .ld_D_D => .ldR8R8 .D .D
  | .ld_D_E => .ldR8R8 .D .E
  | .ld_D_H => .ldR8R8 .D .H
  | .ld_D_L => .ldR8R8 .D .L
  | .ld_D_mHL => .ldR8HL .D
  | .ld_D_A => .ldR8R8 .D .A
  | .ld_E_B => .ldR8R8 .E .B
  | .ld_E_C => .ldR8R8 .E .C
  | .ld_E_D => .ldR8R8 .E .D
  | .ld_E_E => .ldR8R8 .E .E
  | .ld_E_H => .ldR8R8 .E .H
  | .ld_E_L => .ldR8R8 .E .L
  | .ld_E_mHL => .ldR8HL .E
  | .ld_E_A => .ldR8R8 .E .A
  | .ld_H_B => .ldR8R8 .H .B
  | .ld_H_C => .ldR8R8 .H .C
  | .ld_H_D => .ldR8R8 .H .D
  | .ld_H_E => .ldR8R8 .H .E
  | .ld_H_H => .ldR8R8 .H .H
  | .ld_H_L => .ldR8R8 .H .L
  | .ld_H_mHL => .ldR8HL .H
  | .ld_H_A => .ldR8R8 .H .A
  | .ld_L_B => .ldR8R8 .L .B
  | .ld_L_C => .ldR8R8 .L .C
  | .ld_L_D => .ldR8R8 .L .D
  | .ld_L_E => .ldR8R8 .L .E
  | .ld_L_H => .ldR8R8 .L .H
  | .ld_L_L => .ldR8R8 .L .L
  | .ld_L_mHL => .ldR8HL .L
  | .ld_L_A => .ldR8R8 .L .A
  | .ld_mHL_B => .ldHLR8 .B
  | .ld_mHL_C => .ldHLR8 .C
  | .ld_mHL_D => .ldHLR8 .D
  | .ld_mHL_E => .ldHLR8 .E
  | .ld_mHL_H => .ldHLR8 .H
  | .ld_mHL_L => .ldHLR8 .L
  | .halt => .halt
  | .ld_mHL_A => .ldHLR8 .A
  | .ld_A_B => .ldR8R8 .A .B
  | .ld_A_C => .ldR8R8 .A .C
  | .ld_A_D => .ldR8R8 .A .D
  | .ld_A_E => .ldR8R8 .A .E
  | .ld_A_H => .ldR8R8 .A .H
  | .ld_A_L => .ldR8R8 .A .L
  | .ld_A_mHL => .ldR8HL .A
  | .ld_A_A => .ldR8R8 .A .A
  | .add_A_B => .aluR8 .ADD .B
  | .add_A_C => .aluR8 .ADD .C
  | .add_A_D => .aluR8 .ADD .D
  | .add_A_E => .aluR8 .ADD .E
  | .add_A_H => .aluR8 .ADD .H
  | .add_A_L => .aluR8 .ADD .L
  | .add_A_mHL => .aluHL .ADD
  | .add_A_A => .aluR8 .ADD .A
  | .adc_A_B => .aluR8 .ADC .B
  | .adc_A_C => .aluR8 .ADC .C
  | .adc_A_D => .aluR8 .ADC .D
  | .adc_A_E => .aluR8 .ADC .E
  | .adc_A_H => .aluR8 .ADC .H
  | .adc_A_L => .aluR8 .ADC .L
  | .adc_A_mHL => .aluHL .ADC
  | .adc_A_A => .aluR8 .ADC .A
  | .sub_A_B => .aluR8 .SUB .B
  | .sub_A_C => .aluR8 .SUB .C
  | .sub_A_D => .aluR8 .SUB .D
  | .sub_A_E => .aluR8 .SUB .E
  | .sub_A_H => .aluR8 .SUB .H
  | .sub_A_L => .aluR8 .SUB .L
  | .sub_A_mHL => .aluHL .SUB
  | .sub_A_A => .aluR8 .SUB .A
  | .sbc_A_B => .aluR8 .SBC .B
  | .sbc_A_C => .aluR8 .SBC .C
  | .sbc_A_D => .aluR8 .SBC .D
  | .sbc_A_E => .aluR8 .SBC .E
  | .sbc_A_H => .aluR8 .SBC .H
  | .sbc_A_L => .aluR8 .SBC .L
  | .sbc_A_mHL => .aluHL .SBC
  | .sbc_A_A => .aluR8 .SBC .A
  | .and_A_B => .aluR8 .AND .B
  | .and_A_C => .aluR8 .AND .C
  | .and_A_D => .aluR8 .AND .D
  | .and_A_E => .aluR8 .AND .E
  | .and_A_H => .aluR8 .AND .H
  | .and_A_L => .aluR8 .AND .L
  | .and_A_mHL => .aluHL .AND
  | .and_A_A => .aluR8 .AND .A
  | .xor_A_B => .aluR8 .XOR .B
  | .xor_A_C => .aluR8 .XOR .C
  | .xor_A_D => .aluR8 .XOR .D
  | .xor_A_E => .aluR8 .XOR .E
  | .xor_A_H => .aluR8 .XOR .H
  | .xor_A_L => .aluR8 .XOR .L
  | .xor_A_mHL => .aluHL .XOR
  | .xor_A_A => .aluR8 .XOR .A
  | .or_A_B => .aluR8 .OR .B
  | .or_A_C => .aluR8 .OR .C
  | .or_A_D => .aluR8 .OR .D
  | .or_A_E => .aluR8 .OR .E
  | .or_A_H => .aluR8 .OR .H
  | .or_A_L => .aluR8 .OR .L
  | .or_A_mHL => .aluHL .OR
  | .or_A_A => .aluR8 .OR .A
  | .cp_A_B => .aluR8 .CP .B
  | .cp_A_C => .aluR8 .CP .C
  | .cp_A_D => .aluR8 .CP .D
  | .cp_A_E => .aluR8 .CP .E
  | .cp_A_H => .aluR8 .CP .H
  | .cp_A_L => .aluR8 .CP .L
  | .cp_A_mHL => .aluHL .CP
  | .cp_A_A => .aluR8 .CP .A
  | .ret_NZ => .retCC .NZ
  | .pop_BC => .pop .BC
  | .jp_NZ_n16 n16 => .jpCC .NZ n16
  | .jp_n16 n16 => .jpN16 n16
  | .call_NZ_n16 n16 => .callCC .NZ n16
  | .push_BC => .push .BC
  | .add_A_n8 n8 => .aluN8 .ADD n8
  | .rst_00 => .rst 0
  | .ret_Z => .retCC .Z
  | .ret => .ret
  | .jp_Z_n16 n16 => .jpCC .Z n16
  | .call_Z_n16 n16 => .callCC .Z n16
  | .call_n16 n16 => .callN16 n16
  | .adc_A_n8 n8 => .aluN8 .ADC n8
  | .rst_08 => .rst 1
  | .ret_NC => .retCC .NC
  | .pop_DE => .pop .DE
  | .jp_NC_n16 n16 => .jpCC .NC n16
  | .illegal_D3 => .illegal 0xD3
  | .call_NC_n16 n16 => .callCC .NC n16
  | .push_DE => .push .DE
  | .sub_A_n8 n8 => .aluN8 .SUB n8
  | .rst_10 => .rst 2
  | .ret_C => .retCC .C
  | .reti => .reti
  | .jp_C_n16 n16 => .jpCC .C n16
  | .illegal_DB => .illegal 0xDB
  | .call_C_n16 n16 => .callCC .C n16
  | .illegal_DD => .illegal 0xDD
  | .sbc_A_n8 n8 => .aluN8 .SBC n8
  | .rst_18 => .rst 3
  | .ldh_mN8_A n8 => .ldhN8A n8
  | .pop_HL => .pop .HL
  | .ldh_mC_A => .ldhCA
  | .illegal_E3 => .illegal 0xE3
  | .illegal_E4 => .illegal 0xE4
  | .push_HL => .push .HL
  | .and_A_n8 n8 => .aluN8 .AND n8
  | .rst_20 => .rst 4
  | .add_SP_e8 e8 => .addSPE8 e8
  | .jp_HL => .jpHL
  | .ld_mN16_A n16 => .ldN16A n16
  | .illegal_EB => .illegal 0xEB
  | .illegal_EC => .illegal 0xEC
  | .illegal_ED => .illegal 0xED
  | .xor_A_n8 n8 => .aluN8 .XOR n8
  | .rst_28 => .rst 5
  | .ldh_A_mN8 n8 => .ldhAN8 n8
  | .pop_AF => .pop .AF
  | .ldh_A_mC => .ldhAC
  | .di => .di
  | .illegal_F4 => .illegal 0xF4
  | .push_AF => .push .AF
  | .or_A_n8 n8 => .aluN8 .OR n8
  | .rst_30 => .rst 6
  | .ld_HL_SPe8 e8 => .ldHLSPE8 e8
  | .ld_SP_HL => .ldSPHL
  | .ld_A_mN16 n16 => .ldAN16 n16
  | .ei => .ei
  | .illegal_FC => .illegal 0xFC
  | .illegal_FD => .illegal 0xFD
  | .cp_A_n8 n8 => .aluN8 .CP n8
  | .rst_38 => .rst 7
  | .rlc_B => .shiftR8 .RLC .B
  | .rlc_C => .shiftR8 .RLC .C
  | .rlc_D => .shiftR8 .RLC .D
  | .rlc_E => .shiftR8 .RLC .E
  | .rlc_H => .shiftR8 .RLC .H
  | .rlc_L => .shiftR8 .RLC .L
  | .rlc_mHL => .shiftHL .RLC
  | .rlc_A => .shiftR8 .RLC .A
  | .rrc_B => .shiftR8 .RRC .B
  | .rrc_C => .shiftR8 .RRC .C
  | .rrc_D => .shiftR8 .RRC .D
  | .rrc_E => .shiftR8 .RRC .E
  | .rrc_H => .shiftR8 .RRC .H
  | .rrc_L => .shiftR8 .RRC .L
  | .rrc_mHL => .shiftHL .RRC
  | .rrc_A => .shiftR8 .RRC .A
  | .rl_B => .shiftR8 .RL .B
  | .rl_C => .shiftR8 .RL .C
  | .rl_D => .shiftR8 .RL .D
  | .rl_E => .shiftR8 .RL .E
  | .rl_H => .shiftR8 .RL .H
  | .rl_L => .shiftR8 .RL .L
  | .rl_mHL => .shiftHL .RL
  | .rl_A => .shiftR8 .RL .A
  | .rr_B => .shiftR8 .RR .B
  | .rr_C => .shiftR8 .RR .C
  | .rr_D => .shiftR8 .RR .D
  | .rr_E => .shiftR8 .RR .E
  | .rr_H => .shiftR8 .RR .H
  | .rr_L => .shiftR8 .RR .L
  | .rr_mHL => .shiftHL .RR
  | .rr_A => .shiftR8 .RR .A
  | .sla_B => .shiftR8 .SLA .B
  | .sla_C => .shiftR8 .SLA .C
  | .sla_D => .shiftR8 .SLA .D
  | .sla_E => .shiftR8 .SLA .E
  | .sla_H => .shiftR8 .SLA .H
  | .sla_L => .shiftR8 .SLA .L
  | .sla_mHL => .shiftHL .SLA
  | .sla_A => .shiftR8 .SLA .A
  | .sra_B => .shiftR8 .SRA .B
  | .sra_C => .shiftR8 .SRA .C
  | .sra_D => .shiftR8 .SRA .D
  | .sra_E => .shiftR8 .SRA .E
  | .sra_H => .shiftR8 .SRA .H
  | .sra_L => .shiftR8 .SRA .L
  | .sra_mHL => .shiftHL .SRA
  | .sra_A => .shiftR8 .SRA .A
  | .swap_B => .shiftR8 .SWAP .B
  | .swap_C => .shiftR8 .SWAP .C
  | .swap_D => .shiftR8 .SWAP .D
  | .swap_E => .shiftR8 .SWAP .E
  | .swap_H => .shiftR8 .SWAP .H
  | .swap_L => .shiftR8 .SWAP .L
  | .swap_mHL => .shiftHL .SWAP
  | .swap_A => .shiftR8 .SWAP .A
  | .srl_B => .shiftR8 .SRL .B
  | .srl_C => .shiftR8 .SRL .C
  | .srl_D => .shiftR8 .SRL .D
  | .srl_E => .shiftR8 .SRL .E
  | .srl_H => .shiftR8 .SRL .H
  | .srl_L => .shiftR8 .SRL .L
  | .srl_mHL => .shiftHL .SRL
  | .srl_A => .shiftR8 .SRL .A
  | .bit_0_B => .bitR8 0 .B
  | .bit_0_C => .bitR8 0 .C
  | .bit_0_D => .bitR8 0 .D
  | .bit_0_E => .bitR8 0 .E
  | .bit_0_H => .bitR8 0 .H
  | .bit_0_L => .bitR8 0 .L
  | .bit_0_mHL => .bitHL 0
  | .bit_0_A => .bitR8 0 .A
  | .bit_1_B => .bitR8 1 .B
  | .bit_1_C => .bitR8 1 .C
  | .bit_1_D => .bitR8 1 .D
  | .bit_1_E => .bitR8 1 .E
  | .bit_1_H => .bitR8 1 .H
  | .bit_1_L => .bitR8 1 .L
  | .bit_1_mHL => .bitHL 1
  | .bit_1_A => .bitR8 1 .A
  | .bit_2_B => .bitR8 2 .B
  | .bit_2_C => .bitR8 2 .C
  | .bit_2_D => .bitR8 2 .D
  | .bit_2_E => .bitR8 2 .E
  | .bit_2_H => .bitR8 2 .H
  | .bit_2_L => .bitR8 2 .L
  | .bit_2_mHL => .bitHL 2
  | .bit_2_A => .bitR8 2 .A
  | .bit_3_B => .bitR8 3 .B
  | .bit_3_C => .bitR8 3 .C
  | .bit_3_D => .bitR8 3 .D
  | .bit_3_E => .bitR8 3 .E
  | .bit_3_H => .bitR8 3 .H
  | .bit_3_L => .bitR8 3 .L
  | .bit_3_mHL => .bitHL 3
  | .bit_3_A => .bitR8 3 .A
  | .bit_4_B => .bitR8 4 .B
  | .bit_4_C => .bitR8 4 .C
  | .bit_4_D => .bitR8 4 .D
  | .bit_4_E => .bitR8 4 .E
  | .bit_4_H => .bitR8 4 .H
  | .bit_4_L => .bitR8 4 .L
  | .bit_4_mHL => .bitHL 4
  | .bit_4_A => .bitR8 4 .A
  | .bit_5_B => .bitR8 5 .B
  | .bit_5_C => .bitR8 5 .C
  | .bit_5_D => .bitR8 5 .D
  | .bit_5_E => .bitR8 5 .E
  | .bit_5_H => .bitR8 5 .H
  | .bit_5_L => .bitR8 5 .L
  | .bit_5_mHL => .bitHL 5
  | .bit_5_A => .bitR8 5 .A
  | .bit_6_B => .bitR8 6 .B
  | .bit_6_C => .bitR8 6 .C
  | .bit_6_D => .bitR8 6 .D
  | .bit_6_E => .bitR8 6 .E
  | .bit_6_H => .bitR8 6 .H
  | .bit_6_L => .bitR8 6 .L
  | .bit_6_mHL => .bitHL 6
  | .bit_6_A => .bitR8 6 .A
  | .bit_7_B => .bitR8 7 .B
  | .bit_7_C => .bitR8 7 .C
  | .bit_7_D => .bitR8 7 .D
  | .bit_7_E => .bitR8 7 .E
  | .bit_7_H => .bitR8 7 .H
  | .bit_7_L => .bitR8 7 .L
  | .bit_7_mHL => .bitHL 7
  | .bit_7_A => .bitR8 7 .A
  | .res_0_B => .resR8 0 .B
  | .res_0_C => .resR8 0 .C
  | .res_0_D => .resR8 0 .D
  | .res_0_E => .resR8 0 .E
  | .res_0_H => .resR8 0 .H
  | .res_0_L => .resR8 0 .L
  | .res_0_mHL => .resHL 0
  | .res_0_A => .resR8 0 .A
  | .res_1_B => .resR8 1 .B
  | .res_1_C => .resR8 1 .C
  | .res_1_D => .resR8 1 .D
  | .res_1_E => .resR8 1 .E
  | .res_1_H => .resR8 1 .H
  | .res_1_L => .resR8 1 .L
  | .res_1_mHL => .resHL 1
  | .res_1_A => .resR8 1 .A
  | .res_2_B => .resR8 2 .B
  | .res_2_C => .resR8 2 .C
  | .res_2_D => .resR8 2 .D
  | .res_2_E => .resR8 2 .E
  | .res_2_H => .resR8 2 .H
  | .res_2_L => .resR8 2 .L
  | .res_2_mHL => .resHL 2
  | .res_2_A => .resR8 2 .A
  | .res_3_B => .resR8 3 .B
  | .res_3_C => .resR8 3 .C
  | .res_3_D => .resR8 3 .D
  | .res_3_E => .resR8 3 .E
  | .res_3_H => .resR8 3 .H
  | .res_3_L => .resR8 3 .L
  | .res_3_mHL => .resHL 3
  | .res_3_A => .resR8 3 .A
  | .res_4_B => .resR8 4 .B
  | .res_4_C => .resR8 4 .C
  | .res_4_D => .resR8 4 .D
  | .res_4_E => .resR8 4 .E
  | .res_4_H => .resR8 4 .H
  | .res_4_L => .resR8 4 .L
  | .res_4_mHL => .resHL 4
  | .res_4_A => .resR8 4 .A
  | .res_5_B => .resR8 5 .B
  | .res_5_C => .resR8 5 .C
  | .res_5_D => .resR8 5 .D
  | .res_5_E => .resR8 5 .E
  | .res_5_H => .resR8 5 .H
  | .res_5_L => .resR8 5 .L
  | .res_5_mHL => .resHL 5
  | .res_5_A => .resR8 5 .A
  | .res_6_B => .resR8 6 .B
  | .res_6_C => .resR8 6 .C
  | .res_6_D => .resR8 6 .D
  | .res_6_E => .resR8 6 .E
  | .res_6_H => .resR8 6 .H
  | .res_6_L => .resR8 6 .L
  | .res_6_mHL => .resHL 6
  | .res_6_A => .resR8 6 .A
  | .res_7_B => .resR8 7 .B
  | .res_7_C => .resR8 7 .C
  | .res_7_D => .resR8 7 .D
  | .res_7_E => .resR8 7 .E
  | .res_7_H => .resR8 7 .H
  | .res_7_L => .resR8 7 .L
  | .res_7_mHL => .resHL 7
  | .res_7_A => .resR8 7 .A
  | .set_0_B => .setR8 0 .B
  | .set_0_C => .setR8 0 .C
  | .set_0_D => .setR8 0 .D
  | .set_0_E => .setR8 0 .E
  | .set_0_H => .setR8 0 .H
  | .set_0_L => .setR8 0 .L
  | .set_0_mHL => .setHL 0
  | .set_0_A => .setR8 0 .A
  | .set_1_B => .setR8 1 .B
  | .set_1_C => .setR8 1 .C
  | .set_1_D => .setR8 1 .D
  | .set_1_E => .setR8 1 .E
  | .set_1_H => .setR8 1 .H
  | .set_1_L => .setR8 1 .L
  | .set_1_mHL => .setHL 1
  | .set_1_A => .setR8 1 .A
  | .set_2_B => .setR8 2 .B
  | .set_2_C => .setR8 2 .C
  | .set_2_D => .setR8 2 .D
  | .set_2_E => .setR8 2 .E
  | .set_2_H => .setR8 2 .H
  | .set_2_L => .setR8 2 .L
  | .set_2_mHL => .setHL 2
  | .set_2_A => .setR8 2 .A
  | .set_3_B => .setR8 3 .B
  | .set_3_C => .setR8 3 .C
  | .set_3_D => .setR8 3 .D
  | .set_3_E => .setR8 3 .E
  | .set_3_H => .setR8 3 .H
  | .set_3_L => .setR8 3 .L
  | .set_3_mHL => .setHL 3
  | .set_3_A => .setR8 3 .A
  | .set_4_B => .setR8 4 .B
  | .set_4_C => .setR8 4 .C
  | .set_4_D => .setR8 4 .D
  | .set_4_E => .setR8 4 .E
  | .set_4_H => .setR8 4 .H
  | .set_4_L => .setR8 4 .L
  | .set_4_mHL => .setHL 4
  | .set_4_A => .setR8 4 .A
  | .set_5_B => .setR8 5 .B
  | .set_5_C => .setR8 5 .C
  | .set_5_D => .setR8 5 .D
  | .set_5_E => .setR8 5 .E
  | .set_5_H => .setR8 5 .H
  | .set_5_L => .setR8 5 .L
  | .set_5_mHL => .setHL 5
  | .set_5_A => .setR8 5 .A
  | .set_6_B => .setR8 6 .B
  | .set_6_C => .setR8 6 .C
  | .set_6_D => .setR8 6 .D
  | .set_6_E => .setR8 6 .E
  | .set_6_H => .setR8 6 .H
  | .set_6_L => .setR8 6 .L
  | .set_6_mHL => .setHL 6
  | .set_6_A => .setR8 6 .A
  | .set_7_B => .setR8 7 .B
  | .set_7_C => .setR8 7 .C
  | .set_7_D => .setR8 7 .D
  | .set_7_E => .setR8 7 .E
  | .set_7_H => .setR8 7 .H
  | .set_7_L => .setR8 7 .L
  | .set_7_mHL => .setHL 7
  | .set_7_A => .setR8 7 .A

/-- The length of an instruction of a form, in bytes, opcode and escape byte included (R157, R158). -/
def Form.length (f : Form) : Nat :=
  match f with
  -- format I0
  | .ldR8R8 _ _ | .ldR8HL _ | .ldHLR8 _ | .ldABC | .ldADE | .ldBCA | .ldDEA | .ldhAC | .ldhCA | .ldAHLInc | .ldAHLDec
  | .ldHLIncA | .ldHLDecA | .ldSPHL | .push _ | .pop _ | .aluR8 _ _ | .aluHL _ | .incR8 _ | .incHL | .decR8 _ | .decHL
  | .daa | .cpl | .scf | .ccf | .addHLR16 _ | .incR16 _ | .decR16 _ | .accRot _ | .jpHL | .ret | .retCC _ | .reti
  | .rst _ | .nop | .halt | .stop | .di | .ei | .illegal _ => 1
  -- format I1
  | .ldR8N8 _ _ | .ldHLN8 _ | .ldhAN8 _ | .ldhN8A _ | .aluN8 _ _ | .addSPE8 _ | .ldHLSPE8 _ | .jrE8 _ | .jrCC _ _ => 2
  -- format I2
  | .ldAN16 _ | .ldN16A _ | .ldR16N16 _ _ | .ldN16SP _ | .jpN16 _ | .jpCC _ _ | .callN16 _ | .callCC _ _ => 3
  -- format CB
  | .shiftR8 _ _ | .shiftHL _ | .bitR8 _ _ | .bitHL _ | .resR8 _ _ | .resHL _ | .setR8 _ _ | .setHL _ => 2

/-- The length of an instruction in bytes (R158). -/
def Instr.length (i : Instr) : Nat := i.form.length

/-! ### Decoding a byte list -/

/-- Why a byte list holds no instruction. -/
inductive DecodeError where
  /-- It ends before the instruction that its first byte starts does. -/
  | truncated (available needed : Nat)
deriving DecidableEq, Repr

/-- The length of an instruction as its first byte alone tells it (R152). -/
def lengthOf (op : Byte) : Nat := (decode3 op 0 0).length

/-- The first instruction of a byte list and the bytes after it. -/
def decode (bytes : List Byte) : Except DecodeError (Instr × List Byte) :=
  match bytes with
  | [] => .error (.truncated 0 1)
  | op :: rest =>
    if rest.length + 1 < lengthOf op then .error (.truncated (rest.length + 1) (lengthOf op))
    else .ok (decode3 op (rest.getD 0 0) (rest.getD 1 0), rest.drop (lengthOf op - 1))

/-! ### The encoder -/

/-- The 3-bit code of an operand register (R153). -/
def Reg8.code : Reg8 → BitVec 3
  | .B => 0b000
  | .C => 0b001
  | .D => 0b010
  | .E => 0b011
  | .H => 0b100
  | .L => 0b101
  | .A => 0b111

/-- The 3-bit code that means the byte at the address in HL (R153). -/
def codeAtHL : BitVec 3 := 0b110

/-- The 2-bit code of the first pair table (R154). -/
def R16.code : R16 → BitVec 2
  | .BC => 0b00
  | .DE => 0b01
  | .HL => 0b10
  | .SP => 0b11

/-- The 2-bit code of the second pair table (R155). -/
def Pair.code : Pair → BitVec 2
  | .BC => 0b00
  | .DE => 0b01
  | .HL => 0b10
  | .AF => 0b11

/-- The 2-bit condition code (R156). -/
def Cond.code : Cond → BitVec 2
  | .NZ => 0b00
  | .Z => 0b01
  | .NC => 0b10
  | .C => 0b11

/-- The accumulator operation code (R161). -/
def AluOp.code : AluOp → BitVec 3
  | .ADD => 0
  | .ADC => 1
  | .SUB => 2
  | .SBC => 3
  | .AND => 4
  | .XOR => 5
  | .OR => 6
  | .CP => 7

/-- The rotate and shift code (R163). -/
def ShiftOp.code : ShiftOp → BitVec 3
  | .RLC => 0
  | .RRC => 1
  | .RL => 2
  | .RR => 3
  | .SLA => 4
  | .SRA => 5
  | .SWAP => 6
  | .SRL => 7

/-- The code `y` of an accumulator rotate in quadrant 0, column 7 (R159). -/
def AccRot.code : AccRot → BitVec 3
  | .RLCA => 0
  | .RRCA => 1
  | .RLA => 2
  | .RRA => 3

/-- An opcode byte from its fields `x = op[7:6]`, `y = op[5:3]`, `z = op[2:0]` (R157). -/
def opXYZ (x : BitVec 2) (y z : BitVec 3) : Byte := x ++ y ++ z

/-- The field `y` from its halves `p = op[5:4]` and `q = op[3]` (R157). -/
def fieldPQ (p : BitVec 2) (q : BitVec 1) : BitVec 3 := p ++ q

/-- The field `y` of a conditional form: a bit, then the condition code `op[4:3]` (R156). -/
def fieldCC (hi : BitVec 1) (c : Cond) : BitVec 3 := hi ++ c.code

/-- The bytes of a 16-bit immediate, low byte first (R157, R110). -/
def imm16 (w : Word) : List Byte := [Bits.low w, Bits.high w]

/-- The bytes of an instruction of a form (R157, R159 to R164). -/
def Form.encode (f : Form) : List Byte :=
  match f with
  -- quadrant 0 (R159)
  | .nop => [opXYZ 0 0 0]
  | .ldN16SP w => opXYZ 0 1 0 :: imm16 w
  | .stop => [opXYZ 0 2 0]
  | .jrE8 e => [opXYZ 0 3 0, e]
  | .jrCC c e => [opXYZ 0 (fieldCC 1 c) 0, e]
  | .ldR16N16 p w => opXYZ 0 (fieldPQ p.code 0) 1 :: imm16 w
  | .addHLR16 p => [opXYZ 0 (fieldPQ p.code 1) 1]
  | .ldBCA => [opXYZ 0 (fieldPQ 0 0) 2]
  | .ldDEA => [opXYZ 0 (fieldPQ 1 0) 2]
  | .ldHLIncA => [opXYZ 0 (fieldPQ 2 0) 2]
  | .ldHLDecA => [opXYZ 0 (fieldPQ 3 0) 2]
  | .ldABC => [opXYZ 0 (fieldPQ 0 1) 2]
  | .ldADE => [opXYZ 0 (fieldPQ 1 1) 2]
  | .ldAHLInc => [opXYZ 0 (fieldPQ 2 1) 2]
  | .ldAHLDec => [opXYZ 0 (fieldPQ 3 1) 2]
  | .incR16 p => [opXYZ 0 (fieldPQ p.code 0) 3]
  | .decR16 p => [opXYZ 0 (fieldPQ p.code 1) 3]
  | .incR8 d => [opXYZ 0 d.code 4]
  | .incHL => [opXYZ 0 codeAtHL 4]
  | .decR8 d => [opXYZ 0 d.code 5]
  | .decHL => [opXYZ 0 codeAtHL 5]
  | .ldR8N8 d n => [opXYZ 0 d.code 6, n]
  | .ldHLN8 n => [opXYZ 0 codeAtHL 6, n]
  | .accRot op => [opXYZ 0 op.code 7]
  | .daa => [opXYZ 0 4 7]
  | .cpl => [opXYZ 0 5 7]
  | .scf => [opXYZ 0 6 7]
  | .ccf => [opXYZ 0 7 7]
  -- quadrant 1 (R160)
  | .ldR8R8 d r => [opXYZ 1 d.code r.code]
  | .ldR8HL d => [opXYZ 1 d.code codeAtHL]
  | .ldHLR8 r => [opXYZ 1 codeAtHL r.code]
  | .halt => [opXYZ 1 codeAtHL codeAtHL]
  -- quadrant 2 (R161)
  | .aluR8 op r => [opXYZ 2 op.code r.code]
  | .aluHL op => [opXYZ 2 op.code codeAtHL]
  -- quadrant 3 (R162)
  | .retCC c => [opXYZ 3 (fieldCC 0 c) 0]
  | .ldhN8A n => [opXYZ 3 4 0, n]
  | .addSPE8 e => [opXYZ 3 5 0, e]
  | .ldhAN8 n => [opXYZ 3 6 0, n]
  | .ldHLSPE8 e => [opXYZ 3 7 0, e]
  | .pop q => [opXYZ 3 (fieldPQ q.code 0) 1]
  | .ret => [opXYZ 3 (fieldPQ 0 1) 1]
  | .reti => [opXYZ 3 (fieldPQ 1 1) 1]
  | .jpHL => [opXYZ 3 (fieldPQ 2 1) 1]
  | .ldSPHL => [opXYZ 3 (fieldPQ 3 1) 1]
  | .jpCC c w => opXYZ 3 (fieldCC 0 c) 2 :: imm16 w
  | .ldhCA => [opXYZ 3 4 2]
  | .ldN16A w => opXYZ 3 5 2 :: imm16 w
  | .ldhAC => [opXYZ 3 6 2]
  | .ldAN16 w => opXYZ 3 7 2 :: imm16 w
  | .jpN16 w => opXYZ 3 0 3 :: imm16 w
  | .di => [opXYZ 3 6 3]
  | .ei => [opXYZ 3 7 3]
  | .callCC c w => opXYZ 3 (fieldCC 0 c) 4 :: imm16 w
  | .push q => [opXYZ 3 (fieldPQ q.code 0) 5]
  | .callN16 w => opXYZ 3 (fieldPQ 0 1) 5 :: imm16 w
  | .aluN8 op n => [opXYZ 3 op.code 6, n]
  | .rst v => [opXYZ 3 v 7]
  | .illegal op => [op]
  -- the secondary table (R163)
  | .shiftR8 op r => [Config.escapeByte, opXYZ 0 op.code r.code]
  | .shiftHL op => [Config.escapeByte, opXYZ 0 op.code codeAtHL]
  | .bitR8 u r => [Config.escapeByte, opXYZ 1 u r.code]
  | .bitHL u => [Config.escapeByte, opXYZ 1 u codeAtHL]
  | .resR8 u r => [Config.escapeByte, opXYZ 2 u r.code]
  | .resHL u => [Config.escapeByte, opXYZ 2 u codeAtHL]
  | .setR8 u r => [Config.escapeByte, opXYZ 3 u r.code]
  | .setHL u => [Config.escapeByte, opXYZ 3 u codeAtHL]

/-- The bytes of an instruction, lowest address first. -/
def encode (i : Instr) : List Byte := i.form.encode

/-! ### The opcode table's numbering -/

/-- The three bytes a table word of `nbits` bits stands for, lowest address first, the bytes past it zero. A table word
holds the first byte in its bits 7..0 and a later byte above it; but the table's 16-bit rows (the secondary table) are
numbered with the escape byte in bits 15..8 (`0xCBFF` is `SET 7,A`), so a 16-bit word with the escape byte there is laid
out as that byte and then bits 7..0 (assumption 8). -/
def tableBytes (nbits w : Nat) : Byte × Byte × Byte :=
  if nbits = 16 ∧ BitVec.ofNat 8 (w / 256) = Config.escapeByte then
    (Config.escapeByte, BitVec.ofNat 8 w, 0)
  else (BitVec.ofNat 8 w, BitVec.ofNat 8 (w / 256), BitVec.ofNat 8 (w / 65536))

/-- The instruction the decoder reads from a table word; a word of more than three bytes is no instruction. -/
def decodeTableWord (nbits w : Nat) : Option Instr :=
  if nbits ≤ 24 then
    let b := tableBytes nbits w
    some (decode3 b.1 b.2.1 b.2.2)
  else none

end Sys2Proof
end

