-- ==== Sys2Proof/Machine/Alu.lean ====
section
/-! DEFINITION. The ALU functions (40_alu_functions.md, R200 to R217): pure functions of their operands that return a
value together with four flags. They hold no state and read no register (R201). Sums and differences are computed
exactly on numbers and narrowed at the end, so that carries are comparisons. -/

namespace Sys2Proof.Machine

/-- The four flags Zero, Subtract, Half-carry and Carry (R56). -/
structure Flags where
  z : Bool
  n : Bool
  h : Bool
  c : Bool
deriving DecidableEq, Repr

/-- The flags byte of R56 and R200: Z at bit 7, N at bit 6, H at bit 5, C at bit 4, bits 3..0 zero. -/
def Flags.toByte (f : Flags) : Byte :=
  (if f.z then 0x80 else 0) ||| (if f.n then 0x40 else 0) ||| (if f.h then 0x20 else 0) ||| (if f.c then 0x10 else 0)

/-- The flags a flags byte holds (R56). -/
def Flags.ofByte (b : Byte) : Flags where
  z := Bits.test b 7
  n := Bits.test b 6
  h := Bits.test b 5
  c := Bits.test b 4

/-- The value-flags pair (R200): `value` is 8 bits wide, 16 for `add16L` and `add16H` (conflict C1). -/
structure ValueFlags (w : Nat) where
  value : BitVec w
  flags : Flags
deriving DecidableEq, Repr

/-- The rotation directions of R214. -/
inductive Dir where
  | left | right
deriving DecidableEq, Repr

/-- `add(l, r, c0)` (R203). -/
def aluAdd (l r : Byte) (c0 : Bool) : ValueFlags 8 :=
  let s := l.toNat + r.toNat + c0.toNat
  { value := BitVec.ofNat 8 s
    flags :=
      { z := BitVec.ofNat 8 s == 0
        n := false
        h := decide ((l &&& 0x0F).toNat + (r &&& 0x0F).toNat + c0.toNat > 0x0F)
        c := decide (s > 0xFF) } }

/-- `sub(l, r, b0)` (R204). -/
def aluSub (l r : Byte) (b0 : Bool) : ValueFlags 8 :=
  let v := BitVec.ofInt 8 ((l.toNat : Int) - (r.toNat : Int) - (b0.toNat : Int))
  { value := v
    flags :=
      { z := v == 0
        n := true
        h := decide ((l &&& 0x0F).toNat < (r &&& 0x0F).toNat + b0.toNat)
        c := decide (l.toNat < r.toNat + b0.toNat) } }

/-- `add16L(l, r)`: the flags come from the low byte (R205). -/
def aluAdd16L (l r : Word) : ValueFlags 16 where
  value := BitVec.ofNat 16 (l.toNat + r.toNat)
  flags :=
    { z := false
      n := false
      h := decide ((l &&& 0x000F).toNat + (r &&& 0x000F).toNat > 0x000F)
      c := decide ((l &&& 0x00FF).toNat + (r &&& 0x00FF).toNat > 0x00FF) }

/-- `add16H(l, r)`: the flags come from the high byte, the carry out of the low byte included (R206). -/
def aluAdd16H (l r : Word) : ValueFlags 16 where
  value := BitVec.ofNat 16 (l.toNat + r.toNat)
  flags :=
    { z := false
      n := false
      h := decide ((l &&& 0x0FFF).toNat + (r &&& 0x0FFF).toNat > 0x0FFF)
      c := decide (l.toNat + r.toNat > 0xFFFF) }

/-- `bcdAdjust(v, n, h, c)` (R207). -/
def aluBcdAdjust (v : Byte) (n h c : Bool) : ValueFlags 8 :=
  let fixL := h || (!n && decide ((v &&& 0x0F).toNat > 9))
  let fixH := c || (!n && decide (v.toNat > 0x99))
  let fix : Byte := (if fixH then 0x60 else 0) + (if fixL then 0x06 else 0)
  let value := if n then v - fix else v + fix
  { value := value, flags := { z := value == 0, n := n, h := false, c := fixH } }

/-- `and(l, r)` (R208). -/
def aluAnd (l r : Byte) : ValueFlags 8 where
  value := l &&& r
  flags := { z := l &&& r == 0, n := false, h := true, c := false }

/-- `or(l, r)` (R209). -/
def aluOr (l r : Byte) : ValueFlags 8 where
  value := l ||| r
  flags := { z := l ||| r == 0, n := false, h := false, c := false }

/-- `xor(l, r)` (R210). -/
def aluXor (l r : Byte) : ValueFlags 8 where
  value := l ^^^ r
  flags := { z := l ^^^ r == 0, n := false, h := false, c := false }

/-- The flags the shifts and rotates share: Z of the value, N and H clear, C the bit that left (R211 to R215). -/
def shifted (value : Byte) (c : Bool) : ValueFlags 8 where
  value := value
  flags := { z := value == 0, n := false, h := false, c := c }

/-- `shiftLeft(v)` (R211). -/
def aluShiftLeft (v : Byte) : ValueFlags 8 := shifted (v <<< 1) (Bits.test v 7)

/-- `shiftRightArithmetic(v)`: bit 7 is kept (R212). -/
def aluShiftRightArithmetic (v : Byte) : ValueFlags 8 := shifted ((v >>> 1) ||| (v &&& 0x80)) (Bits.test v 0)

/-- `shiftRightLogical(v)` (R213). -/
def aluShiftRightLogical (v : Byte) : ValueFlags 8 := shifted (v >>> 1) (Bits.test v 0)

/-- `rotate(dir, v)`: one place, not through carry (R214). -/
def aluRotate (dir : Dir) (v : Byte) : ValueFlags 8 :=
  match dir with
  | .left => shifted ((v <<< 1) ||| (v >>> 7)) (Bits.test v 7)
  | .right => shifted ((v >>> 1) ||| (v <<< 7)) (Bits.test v 0)

/-- `rotate(dir, v, cin)`: the nine bits `cin ‖ v` by one place (R215). -/
def aluRotateThroughCarry (dir : Dir) (v : Byte) (cin : Bool) : ValueFlags 8 :=
  match dir with
  | .left => shifted ((v <<< 1) ||| (if cin then 0x01 else 0)) (Bits.test v 7)
  | .right => shifted ((v >>> 1) ||| (if cin then 0x80 else 0)) (Bits.test v 0)

/-- `swap(v)`: the two nibbles exchanged (R216). -/
def aluSwap (v : Byte) : ValueFlags 8 := shifted (Bits.extract v 0 4 ++ Bits.extract v 4 4) false

/-- `testBit(v, i)`: Z is the complement of the bit; the C position carries no information and the value is not used
(R217). -/
def aluTestBit (v : Byte) (i : BitVec 3) : ValueFlags 8 where
  value := v
  flags := { z := !Bits.test v i.toNat, n := false, h := true, c := false }

end Sys2Proof.Machine
end

