-- ==== Sys2Proof/Machine/State.lean ====
section
/-! DEFINITION. Every piece of state the spec gives CORE (10_state.md section 1, R31), the platform it is attached to
(R109, parameters P10 and P11), the inputs that wait to be taken (R35, R510, R120, R560) and the record of the bus
accesses of the current step (the ports of R122). All of it is plain data. -/

namespace Sys2Proof.Machine

/-- Byte storage: address (or index) and byte, in the canonical form of `Memory.wf` (Ops.lean): keys strictly rising
and no entry equal to `Config.unwrittenByte`, which is what a key that is not listed reads as. -/
abbrev Memory := List Host.Cell

/-- The register file: eight 8-bit slots in array order (R50). Bits 3..0 of `f` are hardwired to 0 (R52), which
`RegFile.set` enforces. The pairs AF, BC, DE, HL are views (R53), not storage. -/
structure RegFile where
  a : Byte
  f : Byte
  b : Byte
  c : Byte
  d : Byte
  e : Byte
  h : Byte
  l : Byte
deriving DecidableEq, Repr

/-- A component the platform attaches to the bus (R101, R102, R109): it claims the addresses `first` to `last`,
both included, and answers and stores nothing outside them. -/
inductive Component where
  /-- Plain read-write storage. -/
  | ram (first last : Word) (cells : Memory)
  /-- Storage that answers reads and ignores writes. -/
  | rom (first last : Word) (cells : Memory)
  /-- A peripheral of unknown behaviour: its answers are the free value `Config.deviceAnswer`, and what a write does
  inside it is not observed by CORE except through those answers and the inputs. -/
  | device (id : Nat) (first last : Word)
deriving DecidableEq, Repr

/-- The five interrupt sources, at bit positions 0 to 4 of IE and IF in this order (R61, R513). -/
inductive IrqSource where
  | vblank | lcdStatus | timer | serial | joypad
deriving DecidableEq, Repr

/-- What the outside world does between CORE's previous step and this one: the reset line (R560), the bus writes that
other masters made in their own `cycle` calls, oldest first (R120), and the request lines (R510: bit `i` is source
`i`). -/
structure CycleInput where
  reset : Bool
  writes : List (Word × Byte)
  irq : BitVec 5
deriving DecidableEq, Repr

/-- One access of CORE at its bus port (R122, R114). -/
inductive BusAccess where
  /-- An opcode or operand byte read (R158). -/
  | fetch (addr : Word) (data : Byte)
  | read (addr : Word) (data : Byte)
  | write (addr : Word) (data : Byte)
deriving DecidableEq, Repr

/-- The machine's state. -/
structure State where
  /-- A, F, B, C, D, E, H, L (R50). -/
  regs : RegFile
  /-- The stack pointer (R59). -/
  sp : Word
  /-- The program counter (R58). -/
  pc : Word
  /-- The interrupt-master-enable flag (R60). -/
  ime : Bool
  /-- IE, the interrupt-enable register, all eight bits stored (R61). -/
  ie : Byte
  /-- IF, the interrupt-flag register, all eight bits stored (R62). -/
  ifr : Byte
  /-- The fast RAM, keyed by index 0 to 126 from `HRAM_START` (R68). -/
  hram : Memory
  /-- The halted flag (R65). -/
  halted : Bool
  /-- The wait counter: further cycles in which CORE does nothing (R64). -/
  wait : Nat
  /-- The platform's components attached before CORE's own, in attach order (P10; `before.length` is P11). -/
  before : List Component
  /-- The platform's components attached after CORE's own, in attach order (P10). -/
  after : List Component
  /-- The driver's cycle index (R30): the key of the free values of `Config.deviceAnswer`. No rule of CORE reads it. -/
  cycle : Nat
  /-- What the outside world will do, one entry for each coming step; past the end of the list, nothing (R35). -/
  inputs : List CycleInput
  /-- The bus accesses CORE has made in the current step, in order (R114, R122). -/
  accesses : List BusAccess
deriving DecidableEq, Repr

/-- The three outcomes at which the model faults (R530). Each is SAFE: the model stops where the spec gives the
machine no behaviour. -/
inductive Fault where
  /-- Raised by the eleven `ILLEGAL_xx` rows: a primary opcode without a descriptor (R485). Safe. -/
  | illegalOpcode (op : Byte) (pc : Word)
  /-- Raised by `STOP`: a defined encoding without semantics (R482). Safe. -/
  | unspecifiedInstruction (op : Byte) (pc : Word)
  /-- Raised by an interrupt dispatch whose pending and enabled bits are all among 7..5 (R503, R512). Safe. -/
  | noInterruptSource (m : Byte) (pc : Word)
deriving DecidableEq, Repr

/-- Reasons a step is refused for want of a meaning. -/
inductive Refusal where
  /-- An arm of `exec` that has no meaning yet. Safe. No arm of this model answers it. -/
  | notModelled (mnemonic : String)
deriving DecidableEq, Repr

/-- How a step or an instruction ends. -/
abbrev Result := Host.Outcome State Fault Refusal

/-- An all-zero register file (R561). -/
def RegFile.zero : RegFile := { a := 0, f := 0, b := 0, c := 0, d := 0, e := 0, h := 0, l := 0 }

/-- The state right after reset (R561 to R566), on the smallest closed platform of R109: CORE's own component first,
then one RAM that owns every address, with nothing written in it. The platform is this model's choice (assumption 2),
as is that no input waits. -/
def State.reset : State where
  regs := RegFile.zero
  sp := 0
  pc := Config.resetPC
  ime := false
  ie := 0
  ifr := 0
  hram := []
  halted := false
  wait := 0
  before := []
  after := [.ram 0x0000 0xFFFF []]
  cycle := 0
  inputs := []
  accesses := []

end Sys2Proof.Machine
end

