-- ==== Sys2Proof/Machine/Flags.lean ====
section
/-! DEFINITION. The register file's own operations (R51 to R54), the flag-combination helper (R202) and the two
accumulator families' choice of ALU function (R161, R163, R218). -/

namespace Sys2Proof.Machine

/-- `get(id)` (R51). -/
def RegFile.get (rf : RegFile) : Reg → Byte
  | .A => rf.a
  | .F => rf.f
  | .B => rf.b
  | .C => rf.c
  | .D => rf.d
  | .E => rf.e
  | .H => rf.h
  | .L => rf.l

/-- `set(id, v)`: all eight bits, except into F, whose low nibble stays zero (R51, R52). -/
def RegFile.set (rf : RegFile) (r : Reg) (v : Byte) : RegFile :=
  match r with
  | .A => { rf with a := v }
  | .F => { rf with f := v &&& 0xF0 }
  | .B => { rf with b := v }
  | .C => { rf with c := v }
  | .D => { rf with d := v }
  | .E => { rf with e := v }
  | .H => { rf with h := v }
  | .L => { rf with l := v }

/-- `testBit(id, i)` (R51). -/
def RegFile.testBit (rf : RegFile) (r : Reg) (i : BitVec 3) : Bool := Bits.test (rf.get r) i.toNat

/-- `setBit(id, i, v)` (R51). -/
def RegFile.setBit (rf : RegFile) (r : Reg) (i : BitVec 3) (v : Bool) : RegFile :=
  rf.set r (Bits.set (rf.get r) i.toNat v)

/-- The slots of a pair, high byte first (R53). -/
def pairSlots : Pair → Reg × Reg
  | .AF => (.A, .F)
  | .BC => (.B, .C)
  | .DE => (.D, .E)
  | .HL => (.H, .L)

/-- The 16-bit view of a pair (R53). -/
def RegFile.pair (rf : RegFile) (q : Pair) : Word :=
  Bits.make16 (rf.get (pairSlots q).1) (rf.get (pairSlots q).2)

/-- A write of a pair; into AF it clears the low nibble of F (R53, R54). -/
def RegFile.setPair (rf : RegFile) (q : Pair) (v : Word) : RegFile :=
  (rf.set (pairSlots q).1 (Bits.high v)).set (pairSlots q).2 (Bits.low v)

/-- The four flags of F (R56). -/
def State.flags (s : State) : Flags := Flags.ofByte s.regs.f

/-- The selector of one flag in the flag-combination helper: force 0, force 1, keep the flag's bit from before the
instruction, or take a computed bit (R202, R13). -/
inductive FlagSel where
  | zero
  | one
  | keep
  | to (b : Bool)
deriving DecidableEq, Repr

/-- The bit a selector chooses; `old` is the flag before the instruction (R202). -/
def FlagSel.pick (sel : FlagSel) (old : Bool) : Bool :=
  match sel with
  | .zero => false
  | .one => true
  | .keep => old
  | .to b => b

/-- `flags <- (z, n, h, c)`: the flag-combination helper (R202). -/
def State.setFlags (s : State) (z n h c : FlagSel) : State :=
  let old := s.flags
  let new : Flags := { z := z.pick old.z, n := n.pick old.n, h := h.pick old.h, c := c.pick old.c }
  { s with regs := s.regs.set .F new.toByte }

/-- The accumulator operation of R161 on A = `l`, operand `r` and carry flag `cf` (R218). -/
def aluApply (op : AluOp) (l r : Byte) (cf : Bool) : ValueFlags 8 :=
  match op with
  | .ADD => aluAdd l r false
  | .ADC => aluAdd l r cf
  | .SUB => aluSub l r false
  | .SBC => aluSub l r cf
  | .AND => aluAnd l r
  | .XOR => aluXor l r
  | .OR => aluOr l r
  | .CP => aluSub l r false

/-- Whether the operation writes its value to A: all but `CP` (R351). -/
def aluWritesA (op : AluOp) : Bool :=
  match op with
  | .CP => false
  | .ADD | .ADC | .SUB | .SBC | .AND | .XOR | .OR => true

/-- The rotate or shift of R163 on `v` with carry flag `cf` (R218). -/
def shiftApply (op : ShiftOp) (v : Byte) (cf : Bool) : ValueFlags 8 :=
  match op with
  | .RLC => aluRotate .left v
  | .RRC => aluRotate .right v
  | .RL => aluRotateThroughCarry .left v cf
  | .RR => aluRotateThroughCarry .right v cf
  | .SLA => aluShiftLeft v
  | .SRA => aluShiftRightArithmetic v
  | .SWAP => aluSwap v
  | .SRL => aluShiftRightLogical v

/-- The accumulator rotate of R400 to R403 on `v` with carry flag `cf` (R218). -/
def accRotApply (op : AccRot) (v : Byte) (cf : Bool) : ValueFlags 8 :=
  match op with
  | .RLCA => aluRotate .left v
  | .RRCA => aluRotate .right v
  | .RLA => aluRotateThroughCarry .left v cf
  | .RRA => aluRotateThroughCarry .right v cf

end Sys2Proof.Machine
end

