-- ==== Sys2Proof/Machine/Ops.lean ====
section
/-! DEFINITION. The named operations over memory and registers: byte storage, the bus arbiter (R103, R104), CORE's own
address decoder (R108), the 16-bit accesses (R111), the stack (R305, R306), the end of an instruction (R504), interrupt
requests (R510), the pending test (R511), TAKING AN INTERRUPT (R503) and the return from one (R459), reset (R560). -/

namespace Sys2Proof.Machine

/-! ### Byte storage -/

/-- What storage holds at key `a`. -/
def Memory.read (m : Memory) (a : Nat) : Byte :=
  match m with
  | [] => Config.unwrittenByte
  | (k, v) :: rest => if k = a then v else Memory.read rest a

/-- Put an entry in front of the later entries, unless its value is what an unlisted key reads as. -/
def Memory.cons (a : Nat) (v : Byte) (rest : Memory) : Memory :=
  if v = Config.unwrittenByte then rest else (a, v) :: rest

/-- Store `v` at key `a`, keeping the canonical form. -/
def Memory.write (m : Memory) (a : Nat) (v : Byte) : Memory :=
  match m with
  | [] => Memory.cons a v []
  | (k, x) :: rest =>
    if a < k then Memory.cons a v ((k, x) :: rest)
    else if a = k then Memory.cons a v rest
    else (k, x) :: Memory.write rest a v

/-- The canonical form with every key in `lo` to `hi`: keys strictly rising, no entry equal to what an unlisted key
reads as. -/
def Memory.wfIn (m : Memory) (lo hi : Nat) : Bool :=
  match m with
  | [] => true
  | (k, v) :: rest =>
    decide (lo ≤ k) && decide (k ≤ hi) && decide (v ≠ Config.unwrittenByte) && Memory.wfIn rest (k + 1) hi

/-- The canonical form over the 16-bit address space. -/
def Memory.wf (m : Memory) : Bool := Memory.wfIn m 0 0xFFFF

/-! ### Components and the bus arbiter -/

/-- Whether a component claims an address (R101, R102). -/
def Component.owns (k : Component) (a : Word) : Bool :=
  match k with
  | .ram first last _ | .rom first last _ | .device _ first last => decide (first ≤ a) && decide (a ≤ last)

/-- A component's answer to a read; `none` is `NO_DATA` (R101, R102). -/
def Component.read (k : Component) (cycle : Nat) (fetch : Bool) (a : Word) : Option Byte :=
  if k.owns a then
    match k with
    | .ram _ _ cells | .rom _ _ cells => some (cells.read a.toNat)
    | .device id _ _ => Config.deviceAnswer id cycle fetch a
  else none

/-- A component's reaction to a write; outside its range, nothing (R102). -/
def Component.write (k : Component) (a : Word) (v : Byte) : Component :=
  if k.owns a then
    match k with
    | .ram first last cells => .ram first last (cells.write a.toNat v)
    | .rom first last cells => .rom first last cells
    | .device id first last => .device id first last
  else k

/-- The first answer in attach order; the components after it are not asked (R103). -/
def firstAnswer (ks : List Component) (cycle : Nat) (fetch : Bool) (a : Word) : Option Byte :=
  match ks with
  | [] => none
  | k :: rest =>
    match k.read cycle fetch a with
    | some v => some v
    | none => firstAnswer rest cycle fetch a

/-- Whether an address lies in the fast RAM (P3). -/
def inHram (a : Word) : Bool := decide (Config.hramStart ≤ a) && decide (a ≤ Config.hramEnd)

/-- The index of a fast RAM address (R108). -/
def hramIndex (a : Word) : Nat := a.toNat - Config.hramStart.toNat

/-- CORE's own component, read (R108). -/
def State.coreRead (s : State) (a : Word) : Option Byte :=
  if a = Config.addrIE then some s.ie
  else if a = Config.addrIF then some s.ifr
  else if inHram a then some (s.hram.read (hramIndex a))
  else none

/-- CORE's own component, write (R108). -/
def State.coreWrite (s : State) (a : Word) (v : Byte) : State :=
  { s with
    ie := if a = Config.addrIE then v else s.ie
    ifr := if a = Config.addrIF then v else s.ifr
    hram := if inHram a then s.hram.write (hramIndex a) v else s.hram }

/-- The bus arbiter, read: the first component in attach order that answers wins, and when none does the byte is
`OPEN_BUS_BYTE` (R103). CORE's own component stands between `before` and `after` (P11). -/
def State.busRead (s : State) (fetch : Bool) (a : Word) : Byte :=
  match firstAnswer s.before s.cycle fetch a with
  | some v => v
  | none =>
    match s.coreRead a with
    | some v => v
    | none =>
      match firstAnswer s.after s.cycle fetch a with
      | some v => v
      | none => Config.openBusByte

/-- The bus arbiter, write: every component receives it, in attach order (R104). -/
def State.busWrite (s : State) (a : Word) (v : Byte) : State :=
  let s1 := { s with before := s.before.map (fun k => Component.write k a v) }
  let s2 := s1.coreWrite a v
  { s2 with after := s2.after.map (fun k => Component.write k a v) }

/-- What a data read of `a` gives: the model's read of one byte. -/
def State.byteAt (s : State) (a : Word) : Byte := s.busRead false a

/-- Record one access of CORE at its port (R122). -/
def State.note (s : State) (x : BusAccess) : State := { s with accesses := s.accesses ++ [x] }

/-- `MemRead(a, 1)`: one arbitrated read (R103, R13). -/
def State.memRead (s : State) (a : Word) : Byte × State :=
  (s.byteAt a, s.note (.read a (s.byteAt a)))

/-- `MemWrite(a, 1, v)`: one broadcast write (R104, R13). -/
def State.memWrite (s : State) (a : Word) (v : Byte) : State := (s.busWrite a v).note (.write a v)

/-- `MemWrite(a, 2, v)`: the low byte at `a`, then the high byte at `a + 1` (R111, R110). -/
def State.memWrite16 (s : State) (a : Word) (v : Word) : State :=
  (s.memWrite a (Bits.low v)).memWrite (a + 1) (Bits.high v)

/-- `MemRead(a, 2)`: the byte at `a` first, then the byte at `a + 1`, which is the high one (R111, R110). -/
def State.memRead16 (s : State) (a : Word) : Word × State :=
  let lo := s.memRead a
  let hi := lo.2.memRead (a + 1)
  (Bits.make16 hi.1 lo.1, hi.2)

/-! ### The stack -/

/-- `push16(v)`: the high byte first, at the higher address (R305). -/
def State.push16 (s : State) (v : Word) : State :=
  let s1 := { s with sp := s.sp - 1 }
  let s2 := s1.memWrite s1.sp (Bits.high v)
  let s3 := { s2 with sp := s2.sp - 1 }
  s3.memWrite s3.sp (Bits.low v)

/-- `pop16()` (R306). -/
def State.pop16 (s : State) : Word × State :=
  let lo := s.memRead s.sp
  let s1 := { lo.2 with sp := lo.2.sp + 1 }
  let hi := s1.memRead s1.sp
  let s2 := { hi.2 with sp := hi.2.sp + 1 }
  (Bits.make16 hi.1 lo.1, s2)

/-! ### The end of an instruction -/

/-- `next = pc + length`, modulo 65536 (R158). -/
def State.nextPc (s : State) (length : Nat) : Word := s.pc + BitVec.ofNat 16 length

/-- The end of an instruction: the program counter is written and the cost charged, one cycle of it being this step
(R504, R502). -/
def State.retire (s : State) (pc : Word) (cycles : Nat) : State := { s with pc := pc, wait := cycles - 1 }

/-! ### Interrupts -/

/-- The bit position of a source in IE and IF (R61, R513). -/
def IrqSource.index : IrqSource → Nat
  | .vblank => 0
  | .lcdStatus => 1
  | .timer => 2
  | .serial => 3
  | .joypad => 4

/-- The sources, highest priority first (R513, R515). -/
def IrqSource.byPriority : List IrqSource := [.vblank, .lcdStatus, .timer, .serial, .joypad]

/-- `requestInterrupt(i)` (R510). -/
def State.requestInterrupt (s : State) (i : IrqSource) : State := { s with ifr := Bits.set s.ifr i.index true }

/-- The request lines of a cycle merged into IF (R500, first line). -/
def State.mergeRequests (s : State) (irq : BitVec 5) : State := { s with ifr := s.ifr ||| irq.setWidth 8 }

/-- `IE AND IF`. -/
def State.enabledRequests (s : State) : Byte := s.ie &&& s.ifr

/-- `pending`: `IE AND IF` is not zero, over all eight bits (R511). -/
def State.pending (s : State) : Bool := decide (s.enabledRequests ≠ 0)

/-- The source an interrupt dispatch services: the lowest bit set among 0 to 4 (R503, R515). -/
def servicedSource (m : Byte) : Option IrqSource := IrqSource.byPriority.find? (fun i => Bits.test m i.index)

/-- The service address of a source: `INT_VECTOR_BASE + 8i` (R503, R513). -/
def IrqSource.serviceAddress (i : IrqSource) : Word := Config.intVectorBase + BitVec.ofNat 16 (8 * i.index)

/-- TAKING AN INTERRUPT, the machine's one exception entry (R503, R522): the source's IF bit and IME are cleared, PC is
pushed, then PC goes to the service address and the dispatch cost is charged. With no source in bits 0..4 the model
faults (R512). -/
def dispatchInterrupt (s : State) : Result :=
  match servicedSource s.enabledRequests with
  | none => .fault (.noInterruptSource s.enabledRequests s.pc)
  | some i =>
    let s1 := { s with ifr := Bits.set s.ifr i.index false, ime := false }
    let s2 := s1.push16 s1.pc
    .next (s2.retire i.serviceAddress Config.intDispatchCost)

/-- The return from an interrupt: PC is popped and IME set; nothing else is restored (R459, R522). -/
def State.returnFromInterrupt (s : State) (cycles : Nat) : State :=
  let popped := s.pop16
  { popped.2.retire popped.1 cycles with ime := true }

/-- Wake from halt: a halted CORE with a pending request leaves the halted state, whatever IME is (R501). -/
def State.wake (s : State) : State :=
  if s.halted && s.pending then { s with halted := false, wait := 0 } else s

/-! ### The outside world -/

/-- The bus writes of other masters, oldest first; CORE's own port is not involved (R120). -/
def State.externalWrites (s : State) (ws : List (Word × Byte)) : State :=
  match ws with
  | [] => s
  | (a, v) :: rest => State.externalWrites (s.busWrite a v) rest

/-- Reset: CORE's state takes the values of R561 to R565; no other component, and nothing the outside world holds, is
touched (R560). -/
def State.coreReset (s : State) : State :=
  { s with
    regs := RegFile.zero
    sp := 0
    pc := Config.resetPC
    ime := false
    ie := 0
    ifr := 0
    hram := []
    halted := false
    wait := 0 }

end Sys2Proof.Machine
end

