-- ==== Sys2Proof/Machine/Operands.lean ====
section
/-! DEFINITION. Every operand form: the register fields (R153 to R156), the byte operand accessors `rd8` and `wr8`
(R13, R153), the effective addresses of R269, and the conditions. -/

namespace Sys2Proof.Machine

/-- The register file slot an operand register names (R153). -/
def regOf : Reg8 → Reg
  | .B => .B
  | .C => .C
  | .D => .D
  | .E => .E
  | .H => .H
  | .L => .L
  | .A => .A

/-- `x[n]` for a slot of the register file (R13). -/
def State.reg (s : State) (r : Reg) : Byte := s.regs.get r

/-- `x[n] <- v` for a slot of the register file (R13). -/
def State.setReg (s : State) (r : Reg) (v : Byte) : State := { s with regs := s.regs.set r v }

/-- `x[n]` for a pair (R13, R53). -/
def State.pair (s : State) (q : Pair) : Word := s.regs.pair q

/-- `x[n] <- v` for a pair (R13, R53, R54). -/
def State.setPair (s : State) (q : Pair) (v : Word) : State := { s with regs := s.regs.setPair q v }

/-- `x[r16(p)]`: a pair or SP (R154). -/
def State.r16 (s : State) (p : R16) : Word :=
  match p with
  | .BC => s.pair .BC
  | .DE => s.pair .DE
  | .HL => s.pair .HL
  | .SP => s.sp

/-- `x[r16(p)] <- v` (R154). -/
def State.setR16 (s : State) (p : R16) (v : Word) : State :=
  match p with
  | .BC => s.setPair .BC v
  | .DE => s.setPair .DE v
  | .HL => s.setPair .HL v
  | .SP => { s with sp := v }

/-- `rd8(i)`: a register, or one read at `x[HL]` (R13, R153). -/
def State.rd8 (s : State) (o : Opd8) : Byte × State :=
  match o with
  | .reg r => (s.reg (regOf r), s)
  | .atHL => s.memRead (s.pair .HL)

/-- `wr8(i, v)`: a register, or one write at `x[HL]` (R13, R153). -/
def State.wr8 (s : State) (o : Opd8) (v : Byte) : State :=
  match o with
  | .reg r => s.setReg (regOf r) v
  | .atHL => s.memWrite (s.pair .HL) v

/-- The effective address `HIGH_PAGE + n8` (R261, R263, R269). -/
def highAddr (n : Byte) : Word := Config.highPage + Bits.zext16 n

/-- `cond(cc)` (R156). -/
def State.cond (s : State) (c : Cond) : Bool :=
  match c with
  | .NZ => !s.flags.z
  | .Z => s.flags.z
  | .NC => !s.flags.c
  | .C => s.flags.c

end Sys2Proof.Machine
end

