-- ==== Sys2Proof/Machine/Arith16.lean ====
section
/-! DEFINITION. The 16-bit arithmetic instructions (44_arith16.md, R380 to R384). First the meaning of each form, then
one definition for each row of the opcode table. -/

namespace Sys2Proof.Machine

/-- R380 `ADD HL,r16`. -/
def addHLR16 (p : R16) (s : State) : Result :=
  let r := aluAdd16H (s.pair .HL) (s.r16 p)
  .next (((s.setPair .HL r.value).setFlags .keep .zero (.to r.flags.h) (.to r.flags.c)).retire (s.nextPc 1) 2)

/-- R381 `INC r16`. -/
def incR16 (p : R16) (s : State) : Result := .next ((s.setR16 p (s.r16 p + 1)).retire (s.nextPc 1) 2)

/-- R382 `DEC r16`. -/
def decR16 (p : R16) (s : State) : Result := .next ((s.setR16 p (s.r16 p - 1)).retire (s.nextPc 1) 2)

/-- R383 `ADD SP,e8`. -/
def addSPE8 (e : Byte) (s : State) : Result :=
  let r := aluAdd16L s.sp (Bits.sext16 e)
  .next ((({ s with sp := r.value }).setFlags .zero .zero (.to r.flags.h) (.to r.flags.c)).retire (s.nextPc 2) 4)

/-- R384 `LD HL,SP+e8`. -/
def ldHLSPE8 (e : Byte) (s : State) : Result :=
  let r := aluAdd16L s.sp (Bits.sext16 e)
  .next (((s.setPair .HL r.value).setFlags .zero .zero (.to r.flags.h) (.to r.flags.c)).retire (s.nextPc 2) 3)

/-! ### One definition for each row of the opcode table -/

/-- `INC BC` (R381). -/
def execInc_BC (s : State) : Result := incR16 .BC s
/-- `INC DE` (R381). -/
def execInc_DE (s : State) : Result := incR16 .DE s
/-- `INC HL` (R381). -/
def execInc_HL (s : State) : Result := incR16 .HL s
/-- `INC SP` (R381). -/
def execInc_SP (s : State) : Result := incR16 .SP s

/-- `ADD HL,BC` (R380). -/
def execAdd_HL_BC (s : State) : Result := addHLR16 .BC s
/-- `ADD HL,DE` (R380). -/
def execAdd_HL_DE (s : State) : Result := addHLR16 .DE s
/-- `ADD HL,HL` (R380). -/
def execAdd_HL_HL (s : State) : Result := addHLR16 .HL s
/-- `ADD HL,SP` (R380). -/
def execAdd_HL_SP (s : State) : Result := addHLR16 .SP s

/-- `DEC BC` (R382). -/
def execDec_BC (s : State) : Result := decR16 .BC s
/-- `DEC DE` (R382). -/
def execDec_DE (s : State) : Result := decR16 .DE s
/-- `DEC HL` (R382). -/
def execDec_HL (s : State) : Result := decR16 .HL s
/-- `DEC SP` (R382). -/
def execDec_SP (s : State) : Result := decR16 .SP s

/-- `ADD SP,e8` (R383). -/
def execAdd_SP_e8 (e8 : Byte) (s : State) : Result := addSPE8 e8 s

/-- `LD HL,SP+e8` (R384). -/
def execLd_HL_SPe8 (e8 : Byte) (s : State) : Result := ldHLSPE8 e8 s

end Sys2Proof.Machine
end

