-- ==== Sys2Proof/Machine/Arith8.lean ====
section
/-! DEFINITION. The 8-bit arithmetic and logic instructions (43_arith8.md, R330 to R361). First the meaning of each
form, then one definition for each row of the opcode table. -/

namespace Sys2Proof.Machine

/-- The effect of an accumulator operation with second operand `y`: A (but for `CP`) and all four flags (R330 to R353,
R218). -/
def accumulate (op : AluOp) (y : Byte) (s : State) : State :=
  let r := aluApply op (s.reg .A) y s.flags.c
  let s1 := if aluWritesA op then s.setReg .A r.value else s
  s1.setFlags (.to r.flags.z) (.to r.flags.n) (.to r.flags.h) (.to r.flags.c)

/-- `op A,r8`: R330, R333, R336, R339, R342, R345, R348, R351. -/
def aluR8 (op : AluOp) (r : Reg8) (s : State) : Result :=
  .next ((accumulate op (s.reg (regOf r)) s).retire (s.nextPc 1) 1)

/-- `op A,[HL]`: R331, R334, R337, R340, R343, R346, R349, R352. -/
def aluHL (op : AluOp) (s : State) : Result :=
  let y := s.memRead (s.pair .HL)
  .next ((accumulate op y.1 y.2).retire (s.nextPc 1) 2)

/-- `op A,n8`: R332, R335, R338, R341, R344, R347, R350, R353. -/
def aluN8 (op : AluOp) (n : Byte) (s : State) : Result :=
  .next ((accumulate op n s).retire (s.nextPc 2) 2)

/-- `INC` of a byte operand: Z and H computed, N cleared, C kept (R354, R355). -/
def incOpd (o : Opd8) (cycles : Nat) (s : State) : Result :=
  let y := s.rd8 o
  let r := aluAdd y.1 1 false
  .next (((y.2.wr8 o r.value).setFlags (.to r.flags.z) .zero (.to r.flags.h) .keep).retire (s.nextPc 1) cycles)

/-- `DEC` of a byte operand: Z and H computed, N set, C kept (R356, R357). -/
def decOpd (o : Opd8) (cycles : Nat) (s : State) : Result :=
  let y := s.rd8 o
  let r := aluSub y.1 1 false
  .next (((y.2.wr8 o r.value).setFlags (.to r.flags.z) .one (.to r.flags.h) .keep).retire (s.nextPc 1) cycles)

/-- R354 `INC r8`. -/
def incR8 (d : Reg8) (s : State) : Result := incOpd (.reg d) 1 s

/-- R355 `INC [HL]`. -/
def incHL (s : State) : Result := incOpd .atHL 3 s

/-- R356 `DEC r8`. -/
def decR8 (d : Reg8) (s : State) : Result := decOpd (.reg d) 1 s

/-- R357 `DEC [HL]`. -/
def decHL (s : State) : Result := decOpd .atHL 3 s

/-- R358 `DAA`. -/
def daa (s : State) : Result :=
  let r := aluBcdAdjust (s.reg .A) s.flags.n s.flags.h s.flags.c
  .next (((s.setReg .A r.value).setFlags (.to r.flags.z) .keep .zero (.to r.flags.c)).retire (s.nextPc 1) 1)

/-- R359 `CPL`. -/
def cpl (s : State) : Result :=
  .next (((s.setReg .A (Bits.complement8 (s.reg .A))).setFlags .keep .one .one .keep).retire (s.nextPc 1) 1)

/-- R360 `SCF`. -/
def scf (s : State) : Result := .next ((s.setFlags .keep .zero .zero .one).retire (s.nextPc 1) 1)

/-- R361 `CCF`. -/
def ccf (s : State) : Result := .next ((s.setFlags .keep .zero .zero (.to (!s.flags.c))).retire (s.nextPc 1) 1)

/-! ### One definition for each row of the opcode table -/

/-- `INC B` (R354). -/
def execInc_B (s : State) : Result := incR8 .B s
/-- `INC C` (R354). -/
def execInc_C (s : State) : Result := incR8 .C s
/-- `INC D` (R354). -/
def execInc_D (s : State) : Result := incR8 .D s
/-- `INC E` (R354). -/
def execInc_E (s : State) : Result := incR8 .E s
/-- `INC H` (R354). -/
def execInc_H (s : State) : Result := incR8 .H s
/-- `INC L` (R354). -/
def execInc_L (s : State) : Result := incR8 .L s
/-- `INC A` (R354). -/
def execInc_A (s : State) : Result := incR8 .A s

/-- `DEC B` (R356). -/
def execDec_B (s : State) : Result := decR8 .B s
/-- `DEC C` (R356). -/
def execDec_C (s : State) : Result := decR8 .C s
/-- `DEC D` (R356). -/
def execDec_D (s : State) : Result := decR8 .D s
/-- `DEC E` (R356). -/
def execDec_E (s : State) : Result := decR8 .E s
/-- `DEC H` (R356). -/
def execDec_H (s : State) : Result := decR8 .H s
/-- `DEC L` (R356). -/
def execDec_L (s : State) : Result := decR8 .L s
/-- `DEC A` (R356). -/
def execDec_A (s : State) : Result := decR8 .A s

/-- `DAA` (R358). -/
def execDaa (s : State) : Result := daa s

/-- `CPL` (R359). -/
def execCpl (s : State) : Result := cpl s

/-- `INC [HL]` (R355). -/
def execInc_mHL (s : State) : Result := incHL s

/-- `DEC [HL]` (R357). -/
def execDec_mHL (s : State) : Result := decHL s

/-- `SCF` (R360). -/
def execScf (s : State) : Result := scf s

/-- `CCF` (R361). -/
def execCcf (s : State) : Result := ccf s

/-- `ADD A,B` (R330). -/
def execAdd_A_B (s : State) : Result := aluR8 .ADD .B s
/-- `ADD A,C` (R330). -/
def execAdd_A_C (s : State) : Result := aluR8 .ADD .C s
/-- `ADD A,D` (R330). -/
def execAdd_A_D (s : State) : Result := aluR8 .ADD .D s
/-- `ADD A,E` (R330). -/
def execAdd_A_E (s : State) : Result := aluR8 .ADD .E s
/-- `ADD A,H` (R330). -/
def execAdd_A_H (s : State) : Result := aluR8 .ADD .H s
/-- `ADD A,L` (R330). -/
def execAdd_A_L (s : State) : Result := aluR8 .ADD .L s
/-- `ADD A,A` (R330). -/
def execAdd_A_A (s : State) : Result := aluR8 .ADD .A s

/-- `ADD A,[HL]` (R331). -/
def execAdd_A_mHL (s : State) : Result := aluHL .ADD s

/-- `ADC A,B` (R333). -/
def execAdc_A_B (s : State) : Result := aluR8 .ADC .B s
/-- `ADC A,C` (R333). -/
def execAdc_A_C (s : State) : Result := aluR8 .ADC .C s
/-- `ADC A,D` (R333). -/
def execAdc_A_D (s : State) : Result := aluR8 .ADC .D s
/-- `ADC A,E` (R333). -/
def execAdc_A_E (s : State) : Result := aluR8 .ADC .E s
/-- `ADC A,H` (R333). -/
def execAdc_A_H (s : State) : Result := aluR8 .ADC .H s
/-- `ADC A,L` (R333). -/
def execAdc_A_L (s : State) : Result := aluR8 .ADC .L s
/-- `ADC A,A` (R333). -/
def execAdc_A_A (s : State) : Result := aluR8 .ADC .A s

/-- `ADC A,[HL]` (R334). -/
def execAdc_A_mHL (s : State) : Result := aluHL .ADC s

/-- `SUB A,B` (R336). -/
def execSub_A_B (s : State) : Result := aluR8 .SUB .B s
/-- `SUB A,C` (R336). -/
def execSub_A_C (s : State) : Result := aluR8 .SUB .C s
/-- `SUB A,D` (R336). -/
def execSub_A_D (s : State) : Result := aluR8 .SUB .D s
/-- `SUB A,E` (R336). -/
def execSub_A_E (s : State) : Result := aluR8 .SUB .E s
/-- `SUB A,H` (R336). -/
def execSub_A_H (s : State) : Result := aluR8 .SUB .H s
/-- `SUB A,L` (R336). -/
def execSub_A_L (s : State) : Result := aluR8 .SUB .L s
/-- `SUB A,A` (R336). -/
def execSub_A_A (s : State) : Result := aluR8 .SUB .A s

/-- `SUB A,[HL]` (R337). -/
def execSub_A_mHL (s : State) : Result := aluHL .SUB s

/-- `SBC A,B` (R339). -/
def execSbc_A_B (s : State) : Result := aluR8 .SBC .B s
/-- `SBC A,C` (R339). -/
def execSbc_A_C (s : State) : Result := aluR8 .SBC .C s
/-- `SBC A,D` (R339). -/
def execSbc_A_D (s : State) : Result := aluR8 .SBC .D s
/-- `SBC A,E` (R339). -/
def execSbc_A_E (s : State) : Result := aluR8 .SBC .E s
/-- `SBC A,H` (R339). -/
def execSbc_A_H (s : State) : Result := aluR8 .SBC .H s
/-- `SBC A,L` (R339). -/
def execSbc_A_L (s : State) : Result := aluR8 .SBC .L s
/-- `SBC A,A` (R339). -/
def execSbc_A_A (s : State) : Result := aluR8 .SBC .A s

/-- `SBC A,[HL]` (R340). -/
def execSbc_A_mHL (s : State) : Result := aluHL .SBC s

/-- `AND A,B` (R342). -/
def execAnd_A_B (s : State) : Result := aluR8 .AND .B s
/-- `AND A,C` (R342). -/
def execAnd_A_C (s : State) : Result := aluR8 .AND .C s
/-- `AND A,D` (R342). -/
def execAnd_A_D (s : State) : Result := aluR8 .AND .D s
/-- `AND A,E` (R342). -/
def execAnd_A_E (s : State) : Result := aluR8 .AND .E s
/-- `AND A,H` (R342). -/
def execAnd_A_H (s : State) : Result := aluR8 .AND .H s
/-- `AND A,L` (R342). -/
def execAnd_A_L (s : State) : Result := aluR8 .AND .L s
/-- `AND A,A` (R342). -/
def execAnd_A_A (s : State) : Result := aluR8 .AND .A s

/-- `AND A,[HL]` (R343). -/
def execAnd_A_mHL (s : State) : Result := aluHL .AND s

/-- `XOR A,B` (R345). -/
def execXor_A_B (s : State) : Result := aluR8 .XOR .B s
/-- `XOR A,C` (R345). -/
def execXor_A_C (s : State) : Result := aluR8 .XOR .C s
/-- `XOR A,D` (R345). -/
def execXor_A_D (s : State) : Result := aluR8 .XOR .D s
/-- `XOR A,E` (R345). -/
def execXor_A_E (s : State) : Result := aluR8 .XOR .E s
/-- `XOR A,H` (R345). -/
def execXor_A_H (s : State) : Result := aluR8 .XOR .H s
/-- `XOR A,L` (R345). -/
def execXor_A_L (s : State) : Result := aluR8 .XOR .L s
/-- `XOR A,A` (R345). -/
def execXor_A_A (s : State) : Result := aluR8 .XOR .A s

/-- `XOR A,[HL]` (R346). -/
def execXor_A_mHL (s : State) : Result := aluHL .XOR s

/-- `OR A,B` (R348). -/
def execOr_A_B (s : State) : Result := aluR8 .OR .B s
/-- `OR A,C` (R348). -/
def execOr_A_C (s : State) : Result := aluR8 .OR .C s
/-- `OR A,D` (R348). -/
def execOr_A_D (s : State) : Result := aluR8 .OR .D s
/-- `OR A,E` (R348). -/
def execOr_A_E (s : State) : Result := aluR8 .OR .E s
/-- `OR A,H` (R348). -/
def execOr_A_H (s : State) : Result := aluR8 .OR .H s
/-- `OR A,L` (R348). -/
def execOr_A_L (s : State) : Result := aluR8 .OR .L s
/-- `OR A,A` (R348). -/
def execOr_A_A (s : State) : Result := aluR8 .OR .A s

/-- `OR A,[HL]` (R349). -/
def execOr_A_mHL (s : State) : Result := aluHL .OR s

/-- `CP A,B` (R351). -/
def execCp_A_B (s : State) : Result := aluR8 .CP .B s
/-- `CP A,C` (R351). -/
def execCp_A_C (s : State) : Result := aluR8 .CP .C s
/-- `CP A,D` (R351). -/
def execCp_A_D (s : State) : Result := aluR8 .CP .D s
/-- `CP A,E` (R351). -/
def execCp_A_E (s : State) : Result := aluR8 .CP .E s
/-- `CP A,H` (R351). -/
def execCp_A_H (s : State) : Result := aluR8 .CP .H s
/-- `CP A,L` (R351). -/
def execCp_A_L (s : State) : Result := aluR8 .CP .L s
/-- `CP A,A` (R351). -/
def execCp_A_A (s : State) : Result := aluR8 .CP .A s

/-- `CP A,[HL]` (R352). -/
def execCp_A_mHL (s : State) : Result := aluHL .CP s

/-- `ADD A,n8` (R332). -/
def execAdd_A_n8 (n8 : Byte) (s : State) : Result := aluN8 .ADD n8 s

/-- `ADC A,n8` (R335). -/
def execAdc_A_n8 (n8 : Byte) (s : State) : Result := aluN8 .ADC n8 s

/-- `SUB A,n8` (R338). -/
def execSub_A_n8 (n8 : Byte) (s : State) : Result := aluN8 .SUB n8 s

/-- `SBC A,n8` (R341). -/
def execSbc_A_n8 (n8 : Byte) (s : State) : Result := aluN8 .SBC n8 s

/-- `AND A,n8` (R344). -/
def execAnd_A_n8 (n8 : Byte) (s : State) : Result := aluN8 .AND n8 s

/-- `XOR A,n8` (R347). -/
def execXor_A_n8 (n8 : Byte) (s : State) : Result := aluN8 .XOR n8 s

/-- `OR A,n8` (R350). -/
def execOr_A_n8 (n8 : Byte) (s : State) : Result := aluN8 .OR n8 s

/-- `CP A,n8` (R353). -/
def execCp_A_n8 (n8 : Byte) (s : State) : Result := aluN8 .CP n8 s

end Sys2Proof.Machine
end

