-- ==== Sys2Proof/Machine/BitOps.lean ====
section
/-! DEFINITION. The bit test, reset and set instructions (45_rotate_shift_bit.md, R420 to R425). First the meaning of
each form, then one definition for each row of the opcode table. -/

namespace Sys2Proof.Machine

/-- `BIT` of a byte operand: Z is the complement of the bit, N = 0, H = 1, C kept, nothing written (R420, R421). -/
def bitOpd (u : BitVec 3) (o : Opd8) (cycles : Nat) (s : State) : Result :=
  let y := s.rd8 o
  let r := aluTestBit y.1 u
  .next ((y.2.setFlags (.to r.flags.z) .zero .one .keep).retire (s.nextPc 2) cycles)

/-- `RES` (`v` false) or `SET` (`v` true) of a byte operand: no flag changes (R422 to R425). -/
def putBit (u : BitVec 3) (v : Bool) (o : Opd8) (cycles : Nat) (s : State) : Result :=
  let y := s.rd8 o
  .next ((y.2.wr8 o (Bits.set y.1 u.toNat v)).retire (s.nextPc 2) cycles)

/-- R420 `BIT u3,r8`. -/
def bitR8 (u : BitVec 3) (r : Reg8) (s : State) : Result := bitOpd u (.reg r) 2 s

/-- R421 `BIT u3,[HL]`. -/
def bitHL (u : BitVec 3) (s : State) : Result := bitOpd u .atHL 3 s

/-- R422 `RES u3,r8`. -/
def resR8 (u : BitVec 3) (r : Reg8) (s : State) : Result := putBit u false (.reg r) 2 s

/-- R423 `RES u3,[HL]`. -/
def resHL (u : BitVec 3) (s : State) : Result := putBit u false .atHL 4 s

/-- R424 `SET u3,r8`. -/
def setR8 (u : BitVec 3) (r : Reg8) (s : State) : Result := putBit u true (.reg r) 2 s

/-- R425 `SET u3,[HL]`. -/
def setHL (u : BitVec 3) (s : State) : Result := putBit u true .atHL 4 s

/-! ### One definition for each row of the opcode table -/

/-- `BIT 0,B` (R420). -/
def execBit_0_B (s : State) : Result := bitR8 0 .B s
/-- `BIT 0,C` (R420). -/
def execBit_0_C (s : State) : Result := bitR8 0 .C s
/-- `BIT 0,D` (R420). -/
def execBit_0_D (s : State) : Result := bitR8 0 .D s
/-- `BIT 0,E` (R420). -/
def execBit_0_E (s : State) : Result := bitR8 0 .E s
/-- `BIT 0,H` (R420). -/
def execBit_0_H (s : State) : Result := bitR8 0 .H s
/-- `BIT 0,L` (R420). -/
def execBit_0_L (s : State) : Result := bitR8 0 .L s
/-- `BIT 0,A` (R420). -/
def execBit_0_A (s : State) : Result := bitR8 0 .A s
/-- `BIT 1,B` (R420). -/
def execBit_1_B (s : State) : Result := bitR8 1 .B s
/-- `BIT 1,C` (R420). -/
def execBit_1_C (s : State) : Result := bitR8 1 .C s
/-- `BIT 1,D` (R420). -/
def execBit_1_D (s : State) : Result := bitR8 1 .D s
/-- `BIT 1,E` (R420). -/
def execBit_1_E (s : State) : Result := bitR8 1 .E s
/-- `BIT 1,H` (R420). -/
def execBit_1_H (s : State) : Result := bitR8 1 .H s
/-- `BIT 1,L` (R420). -/
def execBit_1_L (s : State) : Result := bitR8 1 .L s
/-- `BIT 1,A` (R420). -/
def execBit_1_A (s : State) : Result := bitR8 1 .A s
/-- `BIT 2,B` (R420). -/
def execBit_2_B (s : State) : Result := bitR8 2 .B s
/-- `BIT 2,C` (R420). -/
def execBit_2_C (s : State) : Result := bitR8 2 .C s
/-- `BIT 2,D` (R420). -/
def execBit_2_D (s : State) : Result := bitR8 2 .D s
/-- `BIT 2,E` (R420). -/
def execBit_2_E (s : State) : Result := bitR8 2 .E s
/-- `BIT 2,H` (R420). -/
def execBit_2_H (s : State) : Result := bitR8 2 .H s
/-- `BIT 2,L` (R420). -/
def execBit_2_L (s : State) : Result := bitR8 2 .L s
/-- `BIT 2,A` (R420). -/
def execBit_2_A (s : State) : Result := bitR8 2 .A s
/-- `BIT 3,B` (R420). -/
def execBit_3_B (s : State) : Result := bitR8 3 .B s
/-- `BIT 3,C` (R420). -/
def execBit_3_C (s : State) : Result := bitR8 3 .C s
/-- `BIT 3,D` (R420). -/
def execBit_3_D (s : State) : Result := bitR8 3 .D s
/-- `BIT 3,E` (R420). -/
def execBit_3_E (s : State) : Result := bitR8 3 .E s
/-- `BIT 3,H` (R420). -/
def execBit_3_H (s : State) : Result := bitR8 3 .H s
/-- `BIT 3,L` (R420). -/
def execBit_3_L (s : State) : Result := bitR8 3 .L s
/-- `BIT 3,A` (R420). -/
def execBit_3_A (s : State) : Result := bitR8 3 .A s
/-- `BIT 4,B` (R420). -/
def execBit_4_B (s : State) : Result := bitR8 4 .B s
/-- `BIT 4,C` (R420). -/
def execBit_4_C (s : State) : Result := bitR8 4 .C s
/-- `BIT 4,D` (R420). -/
def execBit_4_D (s : State) : Result := bitR8 4 .D s
/-- `BIT 4,E` (R420). -/
def execBit_4_E (s : State) : Result := bitR8 4 .E s
/-- `BIT 4,H` (R420). -/
def execBit_4_H (s : State) : Result := bitR8 4 .H s
/-- `BIT 4,L` (R420). -/
def execBit_4_L (s : State) : Result := bitR8 4 .L s
/-- `BIT 4,A` (R420). -/
def execBit_4_A (s : State) : Result := bitR8 4 .A s
/-- `BIT 5,B` (R420). -/
def execBit_5_B (s : State) : Result := bitR8 5 .B s
/-- `BIT 5,C` (R420). -/
def execBit_5_C (s : State) : Result := bitR8 5 .C s
/-- `BIT 5,D` (R420). -/
def execBit_5_D (s : State) : Result := bitR8 5 .D s
/-- `BIT 5,E` (R420). -/
def execBit_5_E (s : State) : Result := bitR8 5 .E s
/-- `BIT 5,H` (R420). -/
def execBit_5_H (s : State) : Result := bitR8 5 .H s
/-- `BIT 5,L` (R420). -/
def execBit_5_L (s : State) : Result := bitR8 5 .L s
/-- `BIT 5,A` (R420). -/
def execBit_5_A (s : State) : Result := bitR8 5 .A s
/-- `BIT 6,B` (R420). -/
def execBit_6_B (s : State) : Result := bitR8 6 .B s
/-- `BIT 6,C` (R420). -/
def execBit_6_C (s : State) : Result := bitR8 6 .C s
/-- `BIT 6,D` (R420). -/
def execBit_6_D (s : State) : Result := bitR8 6 .D s
/-- `BIT 6,E` (R420). -/
def execBit_6_E (s : State) : Result := bitR8 6 .E s
/-- `BIT 6,H` (R420). -/
def execBit_6_H (s : State) : Result := bitR8 6 .H s
/-- `BIT 6,L` (R420). -/
def execBit_6_L (s : State) : Result := bitR8 6 .L s
/-- `BIT 6,A` (R420). -/
def execBit_6_A (s : State) : Result := bitR8 6 .A s
/-- `BIT 7,B` (R420). -/
def execBit_7_B (s : State) : Result := bitR8 7 .B s
/-- `BIT 7,C` (R420). -/
def execBit_7_C (s : State) : Result := bitR8 7 .C s
/-- `BIT 7,D` (R420). -/
def execBit_7_D (s : State) : Result := bitR8 7 .D s
/-- `BIT 7,E` (R420). -/
def execBit_7_E (s : State) : Result := bitR8 7 .E s
/-- `BIT 7,H` (R420). -/
def execBit_7_H (s : State) : Result := bitR8 7 .H s
/-- `BIT 7,L` (R420). -/
def execBit_7_L (s : State) : Result := bitR8 7 .L s
/-- `BIT 7,A` (R420). -/
def execBit_7_A (s : State) : Result := bitR8 7 .A s

/-- `BIT 0,[HL]` (R421). -/
def execBit_0_mHL (s : State) : Result := bitHL 0 s
/-- `BIT 1,[HL]` (R421). -/
def execBit_1_mHL (s : State) : Result := bitHL 1 s
/-- `BIT 2,[HL]` (R421). -/
def execBit_2_mHL (s : State) : Result := bitHL 2 s
/-- `BIT 3,[HL]` (R421). -/
def execBit_3_mHL (s : State) : Result := bitHL 3 s
/-- `BIT 4,[HL]` (R421). -/
def execBit_4_mHL (s : State) : Result := bitHL 4 s
/-- `BIT 5,[HL]` (R421). -/
def execBit_5_mHL (s : State) : Result := bitHL 5 s
/-- `BIT 6,[HL]` (R421). -/
def execBit_6_mHL (s : State) : Result := bitHL 6 s
/-- `BIT 7,[HL]` (R421). -/
def execBit_7_mHL (s : State) : Result := bitHL 7 s

/-- `RES 0,B` (R422). -/
def execRes_0_B (s : State) : Result := resR8 0 .B s
/-- `RES 0,C` (R422). -/
def execRes_0_C (s : State) : Result := resR8 0 .C s
/-- `RES 0,D` (R422). -/
def execRes_0_D (s : State) : Result := resR8 0 .D s
/-- `RES 0,E` (R422). -/
def execRes_0_E (s : State) : Result := resR8 0 .E s
/-- `RES 0,H` (R422). -/
def execRes_0_H (s : State) : Result := resR8 0 .H s
/-- `RES 0,L` (R422). -/
def execRes_0_L (s : State) : Result := resR8 0 .L s
/-- `RES 0,A` (R422). -/
def execRes_0_A (s : State) : Result := resR8 0 .A s
/-- `RES 1,B` (R422). -/
def execRes_1_B (s : State) : Result := resR8 1 .B s
/-- `RES 1,C` (R422). -/
def execRes_1_C (s : State) : Result := resR8 1 .C s
/-- `RES 1,D` (R422). -/
def execRes_1_D (s : State) : Result := resR8 1 .D s
/-- `RES 1,E` (R422). -/
def execRes_1_E (s : State) : Result := resR8 1 .E s
/-- `RES 1,H` (R422). -/
def execRes_1_H (s : State) : Result := resR8 1 .H s
/-- `RES 1,L` (R422). -/
def execRes_1_L (s : State) : Result := resR8 1 .L s
/-- `RES 1,A` (R422). -/
def execRes_1_A (s : State) : Result := resR8 1 .A s
/-- `RES 2,B` (R422). -/
def execRes_2_B (s : State) : Result := resR8 2 .B s
/-- `RES 2,C` (R422). -/
def execRes_2_C (s : State) : Result := resR8 2 .C s
/-- `RES 2,D` (R422). -/
def execRes_2_D (s : State) : Result := resR8 2 .D s
/-- `RES 2,E` (R422). -/
def execRes_2_E (s : State) : Result := resR8 2 .E s
/-- `RES 2,H` (R422). -/
def execRes_2_H (s : State) : Result := resR8 2 .H s
/-- `RES 2,L` (R422). -/
def execRes_2_L (s : State) : Result := resR8 2 .L s
/-- `RES 2,A` (R422). -/
def execRes_2_A (s : State) : Result := resR8 2 .A s
/-- `RES 3,B` (R422). -/
def execRes_3_B (s : State) : Result := resR8 3 .B s
/-- `RES 3,C` (R422). -/
def execRes_3_C (s : State) : Result := resR8 3 .C s
/-- `RES 3,D` (R422). -/
def execRes_3_D (s : State) : Result := resR8 3 .D s
/-- `RES 3,E` (R422). -/
def execRes_3_E (s : State) : Result := resR8 3 .E s
/-- `RES 3,H` (R422). -/
def execRes_3_H (s : State) : Result := resR8 3 .H s
/-- `RES 3,L` (R422). -/
def execRes_3_L (s : State) : Result := resR8 3 .L s
/-- `RES 3,A` (R422). -/
def execRes_3_A (s : State) : Result := resR8 3 .A s
/-- `RES 4,B` (R422). -/
def execRes_4_B (s : State) : Result := resR8 4 .B s
/-- `RES 4,C` (R422). -/
def execRes_4_C (s : State) : Result := resR8 4 .C s
/-- `RES 4,D` (R422). -/
def execRes_4_D (s : State) : Result := resR8 4 .D s
/-- `RES 4,E` (R422). -/
def execRes_4_E (s : State) : Result := resR8 4 .E s
/-- `RES 4,H` (R422). -/
def execRes_4_H (s : State) : Result := resR8 4 .H s
/-- `RES 4,L` (R422). -/
def execRes_4_L (s : State) : Result := resR8 4 .L s
/-- `RES 4,A` (R422). -/
def execRes_4_A (s : State) : Result := resR8 4 .A s
/-- `RES 5,B` (R422). -/
def execRes_5_B (s : State) : Result := resR8 5 .B s
/-- `RES 5,C` (R422). -/
def execRes_5_C (s : State) : Result := resR8 5 .C s
/-- `RES 5,D` (R422). -/
def execRes_5_D (s : State) : Result := resR8 5 .D s
/-- `RES 5,E` (R422). -/
def execRes_5_E (s : State) : Result := resR8 5 .E s
/-- `RES 5,H` (R422). -/
def execRes_5_H (s : State) : Result := resR8 5 .H s
/-- `RES 5,L` (R422). -/
def execRes_5_L (s : State) : Result := resR8 5 .L s
/-- `RES 5,A` (R422). -/
def execRes_5_A (s : State) : Result := resR8 5 .A s
/-- `RES 6,B` (R422). -/
def execRes_6_B (s : State) : Result := resR8 6 .B s
/-- `RES 6,C` (R422). -/
def execRes_6_C (s : State) : Result := resR8 6 .C s
/-- `RES 6,D` (R422). -/
def execRes_6_D (s : State) : Result := resR8 6 .D s
/-- `RES 6,E` (R422). -/
def execRes_6_E (s : State) : Result := resR8 6 .E s
/-- `RES 6,H` (R422). -/
def execRes_6_H (s : State) : Result := resR8 6 .H s
/-- `RES 6,L` (R422). -/
def execRes_6_L (s : State) : Result := resR8 6 .L s
/-- `RES 6,A` (R422). -/
def execRes_6_A (s : State) : Result := resR8 6 .A s
/-- `RES 7,B` (R422). -/
def execRes_7_B (s : State) : Result := resR8 7 .B s
/-- `RES 7,C` (R422). -/
def execRes_7_C (s : State) : Result := resR8 7 .C s
/-- `RES 7,D` (R422). -/
def execRes_7_D (s : State) : Result := resR8 7 .D s
/-- `RES 7,E` (R422). -/
def execRes_7_E (s : State) : Result := resR8 7 .E s
/-- `RES 7,H` (R422). -/
def execRes_7_H (s : State) : Result := resR8 7 .H s
/-- `RES 7,L` (R422). -/
def execRes_7_L (s : State) : Result := resR8 7 .L s
/-- `RES 7,A` (R422). -/
def execRes_7_A (s : State) : Result := resR8 7 .A s

/-- `RES 0,[HL]` (R423). -/
def execRes_0_mHL (s : State) : Result := resHL 0 s
/-- `RES 1,[HL]` (R423). -/
def execRes_1_mHL (s : State) : Result := resHL 1 s
/-- `RES 2,[HL]` (R423). -/
def execRes_2_mHL (s : State) : Result := resHL 2 s
/-- `RES 3,[HL]` (R423). -/
def execRes_3_mHL (s : State) : Result := resHL 3 s
/-- `RES 4,[HL]` (R423). -/
def execRes_4_mHL (s : State) : Result := resHL 4 s
/-- `RES 5,[HL]` (R423). -/
def execRes_5_mHL (s : State) : Result := resHL 5 s
/-- `RES 6,[HL]` (R423). -/
def execRes_6_mHL (s : State) : Result := resHL 6 s
/-- `RES 7,[HL]` (R423). -/
def execRes_7_mHL (s : State) : Result := resHL 7 s

/-- `SET 0,B` (R424). -/
def execSet_0_B (s : State) : Result := setR8 0 .B s
/-- `SET 0,C` (R424). -/
def execSet_0_C (s : State) : Result := setR8 0 .C s
/-- `SET 0,D` (R424). -/
def execSet_0_D (s : State) : Result := setR8 0 .D s
/-- `SET 0,E` (R424). -/
def execSet_0_E (s : State) : Result := setR8 0 .E s
/-- `SET 0,H` (R424). -/
def execSet_0_H (s : State) : Result := setR8 0 .H s
/-- `SET 0,L` (R424). -/
def execSet_0_L (s : State) : Result := setR8 0 .L s
/-- `SET 0,A` (R424). -/
def execSet_0_A (s : State) : Result := setR8 0 .A s
/-- `SET 1,B` (R424). -/
def execSet_1_B (s : State) : Result := setR8 1 .B s
/-- `SET 1,C` (R424). -/
def execSet_1_C (s : State) : Result := setR8 1 .C s
/-- `SET 1,D` (R424). -/
def execSet_1_D (s : State) : Result := setR8 1 .D s
/-- `SET 1,E` (R424). -/
def execSet_1_E (s : State) : Result := setR8 1 .E s
/-- `SET 1,H` (R424). -/
def execSet_1_H (s : State) : Result := setR8 1 .H s
/-- `SET 1,L` (R424). -/
def execSet_1_L (s : State) : Result := setR8 1 .L s
/-- `SET 1,A` (R424). -/
def execSet_1_A (s : State) : Result := setR8 1 .A s
/-- `SET 2,B` (R424). -/
def execSet_2_B (s : State) : Result := setR8 2 .B s
/-- `SET 2,C` (R424). -/
def execSet_2_C (s : State) : Result := setR8 2 .C s
/-- `SET 2,D` (R424). -/
def execSet_2_D (s : State) : Result := setR8 2 .D s
/-- `SET 2,E` (R424). -/
def execSet_2_E (s : State) : Result := setR8 2 .E s
/-- `SET 2,H` (R424). -/
def execSet_2_H (s : State) : Result := setR8 2 .H s
/-- `SET 2,L` (R424). -/
def execSet_2_L (s : State) : Result := setR8 2 .L s
/-- `SET 2,A` (R424). -/
def execSet_2_A (s : State) : Result := setR8 2 .A s
/-- `SET 3,B` (R424). -/
def execSet_3_B (s : State) : Result := setR8 3 .B s
/-- `SET 3,C` (R424). -/
def execSet_3_C (s : State) : Result := setR8 3 .C s
/-- `SET 3,D` (R424). -/
def execSet_3_D (s : State) : Result := setR8 3 .D s
/-- `SET 3,E` (R424). -/
def execSet_3_E (s : State) : Result := setR8 3 .E s
/-- `SET 3,H` (R424). -/
def execSet_3_H (s : State) : Result := setR8 3 .H s
/-- `SET 3,L` (R424). -/
def execSet_3_L (s : State) : Result := setR8 3 .L s
/-- `SET 3,A` (R424). -/
def execSet_3_A (s : State) : Result := setR8 3 .A s
/-- `SET 4,B` (R424). -/
def execSet_4_B (s : State) : Result := setR8 4 .B s
/-- `SET 4,C` (R424). -/
def execSet_4_C (s : State) : Result := setR8 4 .C s
/-- `SET 4,D` (R424). -/
def execSet_4_D (s : State) : Result := setR8 4 .D s
/-- `SET 4,E` (R424). -/
def execSet_4_E (s : State) : Result := setR8 4 .E s
/-- `SET 4,H` (R424). -/
def execSet_4_H (s : State) : Result := setR8 4 .H s
/-- `SET 4,L` (R424). -/
def execSet_4_L (s : State) : Result := setR8 4 .L s
/-- `SET 4,A` (R424). -/
def execSet_4_A (s : State) : Result := setR8 4 .A s
/-- `SET 5,B` (R424). -/
def execSet_5_B (s : State) : Result := setR8 5 .B s
/-- `SET 5,C` (R424). -/
def execSet_5_C (s : State) : Result := setR8 5 .C s
/-- `SET 5,D` (R424). -/
def execSet_5_D (s : State) : Result := setR8 5 .D s
/-- `SET 5,E` (R424). -/
def execSet_5_E (s : State) : Result := setR8 5 .E s
/-- `SET 5,H` (R424). -/
def execSet_5_H (s : State) : Result := setR8 5 .H s
/-- `SET 5,L` (R424). -/
def execSet_5_L (s : State) : Result := setR8 5 .L s
/-- `SET 5,A` (R424). -/
def execSet_5_A (s : State) : Result := setR8 5 .A s
/-- `SET 6,B` (R424). -/
def execSet_6_B (s : State) : Result := setR8 6 .B s
/-- `SET 6,C` (R424). -/
def execSet_6_C (s : State) : Result := setR8 6 .C s
/-- `SET 6,D` (R424). -/
def execSet_6_D (s : State) : Result := setR8 6 .D s
/-- `SET 6,E` (R424). -/
def execSet_6_E (s : State) : Result := setR8 6 .E s
/-- `SET 6,H` (R424). -/
def execSet_6_H (s : State) : Result := setR8 6 .H s
/-- `SET 6,L` (R424). -/
def execSet_6_L (s : State) : Result := setR8 6 .L s
/-- `SET 6,A` (R424). -/
def execSet_6_A (s : State) : Result := setR8 6 .A s
/-- `SET 7,B` (R424). -/
def execSet_7_B (s : State) : Result := setR8 7 .B s
/-- `SET 7,C` (R424). -/
def execSet_7_C (s : State) : Result := setR8 7 .C s
/-- `SET 7,D` (R424). -/
def execSet_7_D (s : State) : Result := setR8 7 .D s
/-- `SET 7,E` (R424). -/
def execSet_7_E (s : State) : Result := setR8 7 .E s
/-- `SET 7,H` (R424). -/
def execSet_7_H (s : State) : Result := setR8 7 .H s
/-- `SET 7,L` (R424). -/
def execSet_7_L (s : State) : Result := setR8 7 .L s
/-- `SET 7,A` (R424). -/
def execSet_7_A (s : State) : Result := setR8 7 .A s

/-- `SET 0,[HL]` (R425). -/
def execSet_0_mHL (s : State) : Result := setHL 0 s
/-- `SET 1,[HL]` (R425). -/
def execSet_1_mHL (s : State) : Result := setHL 1 s
/-- `SET 2,[HL]` (R425). -/
def execSet_2_mHL (s : State) : Result := setHL 2 s
/-- `SET 3,[HL]` (R425). -/
def execSet_3_mHL (s : State) : Result := setHL 3 s
/-- `SET 4,[HL]` (R425). -/
def execSet_4_mHL (s : State) : Result := setHL 4 s
/-- `SET 5,[HL]` (R425). -/
def execSet_5_mHL (s : State) : Result := setHL 5 s
/-- `SET 6,[HL]` (R425). -/
def execSet_6_mHL (s : State) : Result := setHL 6 s
/-- `SET 7,[HL]` (R425). -/
def execSet_7_mHL (s : State) : Result := setHL 7 s

end Sys2Proof.Machine
end

