-- ==== Sys2Proof/Machine/Control.lean ====
section
/-! DEFINITION. Jumps, calls, returns and restarts (46_control_flow.md, R450 to R460). No flag is written. First the
meaning of each form, then one definition for each row of the opcode table. -/

namespace Sys2Proof.Machine

/-- R450 `JP n16`. -/
def jpN16 (w : Word) (s : State) : Result := .next (s.retire w 4)

/-- R451 `JP cc,n16`. -/
def jpCC (c : Cond) (w : Word) (s : State) : Result :=
  .next (if s.cond c then s.retire w 4 else s.retire (s.nextPc 3) 3)

/-- R452 `JP HL`. -/
def jpHL (s : State) : Result := .next (s.retire (s.pair .HL) 1)

/-- The target of a relative jump: the address after the instruction plus the displacement (R453, R269). -/
def State.relative (s : State) (e : Byte) : Word := s.nextPc 2 + Bits.sext16 e

/-- R453 `JR e8`. -/
def jrE8 (e : Byte) (s : State) : Result := .next (s.retire (s.relative e) 3)

/-- R454 `JR cc,e8`. -/
def jrCC (c : Cond) (e : Byte) (s : State) : Result :=
  .next (if s.cond c then s.retire (s.relative e) 3 else s.retire (s.nextPc 2) 2)

/-- Push the address after the instruction and go to `target` (R455, R460). -/
def State.callTo (s : State) (target : Word) (length cycles : Nat) : State :=
  (s.push16 (s.nextPc length)).retire target cycles

/-- Pop the program counter (R457). -/
def State.returnTo (s : State) (cycles : Nat) : State :=
  let popped := s.pop16
  popped.2.retire popped.1 cycles

/-- R455 `CALL n16`. -/
def callN16 (w : Word) (s : State) : Result := .next (s.callTo w 3 6)

/-- R456 `CALL cc,n16`. -/
def callCC (c : Cond) (w : Word) (s : State) : Result :=
  .next (if s.cond c then s.callTo w 3 6 else s.retire (s.nextPc 3) 3)

/-- R457 `RET`. -/
def ret (s : State) : Result := .next (s.returnTo 4)

/-- R458 `RET cc`. -/
def retCC (c : Cond) (s : State) : Result := .next (if s.cond c then s.returnTo 5 else s.retire (s.nextPc 1) 2)

/-- R459 `RETI`. -/
def reti (s : State) : Result := .next (s.returnFromInterrupt 4)

/-- The target of a restart: `zext_16(8 * y)` (R460). -/
def restartTarget (v : BitVec 3) : Word := BitVec.ofNat 16 (8 * v.toNat)

/-- R460 `RST vec`. -/
def rst (v : BitVec 3) (s : State) : Result := .next (s.callTo (restartTarget v) 1 4)

/-! ### One definition for each row of the opcode table -/

/-- `JR e8` (R453). -/
def execJr_e8 (e8 : Byte) (s : State) : Result := jrE8 e8 s

/-- `JR NZ,e8` (R454). -/
def execJr_NZ_e8 (e8 : Byte) (s : State) : Result := jrCC .NZ e8 s
/-- `JR Z,e8` (R454). -/
def execJr_Z_e8 (e8 : Byte) (s : State) : Result := jrCC .Z e8 s
/-- `JR NC,e8` (R454). -/
def execJr_NC_e8 (e8 : Byte) (s : State) : Result := jrCC .NC e8 s
/-- `JR C,e8` (R454). -/
def execJr_C_e8 (e8 : Byte) (s : State) : Result := jrCC .C e8 s

/-- `RET NZ` (R458). -/
def execRet_NZ (s : State) : Result := retCC .NZ s
/-- `RET Z` (R458). -/
def execRet_Z (s : State) : Result := retCC .Z s
/-- `RET NC` (R458). -/
def execRet_NC (s : State) : Result := retCC .NC s
/-- `RET C` (R458). -/
def execRet_C (s : State) : Result := retCC .C s

/-- `JP NZ,n16` (R451). -/
def execJp_NZ_n16 (n16 : Word) (s : State) : Result := jpCC .NZ n16 s
/-- `JP Z,n16` (R451). -/
def execJp_Z_n16 (n16 : Word) (s : State) : Result := jpCC .Z n16 s
/-- `JP NC,n16` (R451). -/
def execJp_NC_n16 (n16 : Word) (s : State) : Result := jpCC .NC n16 s
/-- `JP C,n16` (R451). -/
def execJp_C_n16 (n16 : Word) (s : State) : Result := jpCC .C n16 s

/-- `JP n16` (R450). -/
def execJp_n16 (n16 : Word) (s : State) : Result := jpN16 n16 s

/-- `CALL NZ,n16` (R456). -/
def execCall_NZ_n16 (n16 : Word) (s : State) : Result := callCC .NZ n16 s
/-- `CALL Z,n16` (R456). -/
def execCall_Z_n16 (n16 : Word) (s : State) : Result := callCC .Z n16 s
/-- `CALL NC,n16` (R456). -/
def execCall_NC_n16 (n16 : Word) (s : State) : Result := callCC .NC n16 s
/-- `CALL C,n16` (R456). -/
def execCall_C_n16 (n16 : Word) (s : State) : Result := callCC .C n16 s

/-- `RST $00` (R460). -/
def execRst_00 (s : State) : Result := rst 0 s
/-- `RST $08` (R460). -/
def execRst_08 (s : State) : Result := rst 1 s
/-- `RST $10` (R460). -/
def execRst_10 (s : State) : Result := rst 2 s
/-- `RST $18` (R460). -/
def execRst_18 (s : State) : Result := rst 3 s
/-- `RST $20` (R460). -/
def execRst_20 (s : State) : Result := rst 4 s
/-- `RST $28` (R460). -/
def execRst_28 (s : State) : Result := rst 5 s
/-- `RST $30` (R460). -/
def execRst_30 (s : State) : Result := rst 6 s
/-- `RST $38` (R460). -/
def execRst_38 (s : State) : Result := rst 7 s

/-- `RET` (R457). -/
def execRet (s : State) : Result := ret s

/-- `CALL n16` (R455). -/
def execCall_n16 (n16 : Word) (s : State) : Result := callN16 n16 s

/-- `RETI` (R459). -/
def execReti (s : State) : Result := reti s

/-- `JP HL` (R452). -/
def execJp_HL (s : State) : Result := jpHL s

end Sys2Proof.Machine
end

