-- ==== Sys2Proof/Machine/Load16.lean ====
section
/-! DEFINITION. The 16-bit loads and the stack instructions (42_load16_stack.md, R300 to R304). Only `POP AF` touches
the flags. First the meaning of each form, then one definition for each row of the opcode table. -/

namespace Sys2Proof.Machine

/-- R300 `LD r16,n16`. -/
def ldR16N16 (p : R16) (w : Word) (s : State) : Result := .next ((s.setR16 p w).retire (s.nextPc 3) 3)

/-- R301 `LD [n16],SP`. -/
def ldN16SP (w : Word) (s : State) : Result := .next ((s.memWrite16 w s.sp).retire (s.nextPc 3) 5)

/-- R302 `LD SP,HL`. -/
def ldSPHL (s : State) : Result := .next (({ s with sp := s.pair .HL }).retire (s.nextPc 1) 2)

/-- R303 `PUSH r16`. -/
def push (q : Pair) (s : State) : Result := .next ((s.push16 (s.pair q)).retire (s.nextPc 1) 4)

/-- R304 `POP r16`; into AF the low nibble of F stays zero. -/
def pop (q : Pair) (s : State) : Result :=
  let popped := s.pop16
  .next ((popped.2.setPair q popped.1).retire (s.nextPc 1) 3)

/-! ### One definition for each row of the opcode table -/

/-- `LD BC,n16` (R300). -/
def execLd_BC_n16 (n16 : Word) (s : State) : Result := ldR16N16 .BC n16 s
/-- `LD DE,n16` (R300). -/
def execLd_DE_n16 (n16 : Word) (s : State) : Result := ldR16N16 .DE n16 s
/-- `LD HL,n16` (R300). -/
def execLd_HL_n16 (n16 : Word) (s : State) : Result := ldR16N16 .HL n16 s
/-- `LD SP,n16` (R300). -/
def execLd_SP_n16 (n16 : Word) (s : State) : Result := ldR16N16 .SP n16 s

/-- `LD [n16],SP` (R301). -/
def execLd_mN16_SP (n16 : Word) (s : State) : Result := ldN16SP n16 s

/-- `POP BC` (R304). -/
def execPop_BC (s : State) : Result := pop .BC s
/-- `POP DE` (R304). -/
def execPop_DE (s : State) : Result := pop .DE s
/-- `POP HL` (R304). -/
def execPop_HL (s : State) : Result := pop .HL s
/-- `POP AF` (R304). -/
def execPop_AF (s : State) : Result := pop .AF s

/-- `PUSH BC` (R303). -/
def execPush_BC (s : State) : Result := push .BC s
/-- `PUSH DE` (R303). -/
def execPush_DE (s : State) : Result := push .DE s
/-- `PUSH HL` (R303). -/
def execPush_HL (s : State) : Result := push .HL s
/-- `PUSH AF` (R303). -/
def execPush_AF (s : State) : Result := push .AF s

/-- `LD SP,HL` (R302). -/
def execLd_SP_HL (s : State) : Result := ldSPHL s

end Sys2Proof.Machine
end

