-- ==== Sys2Proof/Machine/Load8.lean ====
section
/-! DEFINITION. The 8-bit loads (41_load8.md, R250 to R268). No load touches a flag and none can fault. First the
meaning of each form over its operands, then one definition for each row of the opcode table. -/

namespace Sys2Proof.Machine

/-- R250 `LD r8,r8'`. -/
def ldR8R8 (d r : Reg8) (s : State) : Result :=
  .next ((s.setReg (regOf d) (s.reg (regOf r))).retire (s.nextPc 1) 1)

/-- R251 `LD r8,n8`. -/
def ldR8N8 (d : Reg8) (n : Byte) (s : State) : Result :=
  .next ((s.setReg (regOf d) n).retire (s.nextPc 2) 2)

/-- A load into register `d` from the byte at `a`, the shared body of R252, R255, R256, R259, R261, R263. -/
def loadFrom (d : Reg8) (a : Word) (length cycles : Nat) (s : State) : Result :=
  let r := s.memRead a
  .next ((r.2.setReg (regOf d) r.1).retire (s.nextPc length) cycles)

/-- A store of `v` to the byte at `a`, the shared body of R253, R254, R257, R258, R260, R262, R264. -/
def storeTo (a : Word) (v : Byte) (length cycles : Nat) (s : State) : Result :=
  .next ((s.memWrite a v).retire (s.nextPc length) cycles)

/-- R252 `LD r8,[HL]`. -/
def ldR8HL (d : Reg8) (s : State) : Result := loadFrom d (s.pair .HL) 1 2 s

/-- R253 `LD [HL],r8`. -/
def ldHLR8 (r : Reg8) (s : State) : Result := storeTo (s.pair .HL) (s.reg (regOf r)) 1 2 s

/-- R254 `LD [HL],n8`. -/
def ldHLN8 (n : Byte) (s : State) : Result := storeTo (s.pair .HL) n 2 3 s

/-- R255 `LD A,[BC]`. -/
def ldABC (s : State) : Result := loadFrom .A (s.pair .BC) 1 2 s

/-- R256 `LD A,[DE]`. -/
def ldADE (s : State) : Result := loadFrom .A (s.pair .DE) 1 2 s

/-- R257 `LD [BC],A`. -/
def ldBCA (s : State) : Result := storeTo (s.pair .BC) (s.reg .A) 1 2 s

/-- R258 `LD [DE],A`. -/
def ldDEA (s : State) : Result := storeTo (s.pair .DE) (s.reg .A) 1 2 s

/-- R259 `LD A,[n16]`. -/
def ldAN16 (w : Word) (s : State) : Result := loadFrom .A w 3 4 s

/-- R260 `LD [n16],A`. -/
def ldN16A (w : Word) (s : State) : Result := storeTo w (s.reg .A) 3 4 s

/-- R261 `LDH A,[n8]`. -/
def ldhAN8 (n : Byte) (s : State) : Result := loadFrom .A (highAddr n) 2 3 s

/-- R262 `LDH [n8],A`. -/
def ldhN8A (n : Byte) (s : State) : Result := storeTo (highAddr n) (s.reg .A) 2 3 s

/-- R263 `LDH A,[C]`. -/
def ldhAC (s : State) : Result := loadFrom .A (highAddr (s.reg .C)) 1 2 s

/-- R264 `LDH [C],A`. -/
def ldhCA (s : State) : Result := storeTo (highAddr (s.reg .C)) (s.reg .A) 1 2 s

/-- A load of A through HL, after which HL moves by `delta` (R265, R266). -/
def loadThroughHL (delta : Word) (s : State) : Result :=
  let r := s.memRead (s.pair .HL)
  let s1 := r.2.setReg .A r.1
  .next ((s1.setPair .HL (s1.pair .HL + delta)).retire (s.nextPc 1) 2)

/-- A store of A through HL, after which HL moves by `delta` (R267, R268). -/
def storeThroughHL (delta : Word) (s : State) : Result :=
  let s1 := s.memWrite (s.pair .HL) (s.reg .A)
  .next ((s1.setPair .HL (s1.pair .HL + delta)).retire (s.nextPc 1) 2)

/-- R265 `LD A,[HL+]`. -/
def ldAHLInc (s : State) : Result := loadThroughHL 1 s

/-- R266 `LD A,[HL-]`. -/
def ldAHLDec (s : State) : Result := loadThroughHL (-1) s

/-- R267 `LD [HL+],A`. -/
def ldHLIncA (s : State) : Result := storeThroughHL 1 s

/-- R268 `LD [HL-],A`. -/
def ldHLDecA (s : State) : Result := storeThroughHL (-1) s

/-! ### One definition for each row of the opcode table -/

/-- `LD [BC],A` (R257). -/
def execLd_mBC_A (s : State) : Result := ldBCA s

/-- `LD B,n8` (R251). -/
def execLd_B_n8 (n8 : Byte) (s : State) : Result := ldR8N8 .B n8 s
/-- `LD C,n8` (R251). -/
def execLd_C_n8 (n8 : Byte) (s : State) : Result := ldR8N8 .C n8 s
/-- `LD D,n8` (R251). -/
def execLd_D_n8 (n8 : Byte) (s : State) : Result := ldR8N8 .D n8 s
/-- `LD E,n8` (R251). -/
def execLd_E_n8 (n8 : Byte) (s : State) : Result := ldR8N8 .E n8 s
/-- `LD H,n8` (R251). -/
def execLd_H_n8 (n8 : Byte) (s : State) : Result := ldR8N8 .H n8 s
/-- `LD L,n8` (R251). -/
def execLd_L_n8 (n8 : Byte) (s : State) : Result := ldR8N8 .L n8 s
/-- `LD A,n8` (R251). -/
def execLd_A_n8 (n8 : Byte) (s : State) : Result := ldR8N8 .A n8 s

/-- `LD A,[BC]` (R255). -/
def execLd_A_mBC (s : State) : Result := ldABC s

/-- `LD [DE],A` (R258). -/
def execLd_mDE_A (s : State) : Result := ldDEA s

/-- `LD A,[DE]` (R256). -/
def execLd_A_mDE (s : State) : Result := ldADE s

/-- `LD [HL+],A` (R267). -/
def execLd_mHLinc_A (s : State) : Result := ldHLIncA s

/-- `LD A,[HL+]` (R265). -/
def execLd_A_mHLinc (s : State) : Result := ldAHLInc s

/-- `LD [HL-],A` (R268). -/
def execLd_mHLdec_A (s : State) : Result := ldHLDecA s

/-- `LD [HL],n8` (R254). -/
def execLd_mHL_n8 (n8 : Byte) (s : State) : Result := ldHLN8 n8 s

/-- `LD A,[HL-]` (R266). -/
def execLd_A_mHLdec (s : State) : Result := ldAHLDec s

/-- `LD B,B` (R250). -/
def execLd_B_B (s : State) : Result := ldR8R8 .B .B s
/-- `LD B,C` (R250). -/
def execLd_B_C (s : State) : Result := ldR8R8 .B .C s
/-- `LD B,D` (R250). -/
def execLd_B_D (s : State) : Result := ldR8R8 .B .D s
/-- `LD B,E` (R250). -/
def execLd_B_E (s : State) : Result := ldR8R8 .B .E s
/-- `LD B,H` (R250). -/
def execLd_B_H (s : State) : Result := ldR8R8 .B .H s
/-- `LD B,L` (R250). -/
def execLd_B_L (s : State) : Result := ldR8R8 .B .L s
/-- `LD B,A` (R250). -/
def execLd_B_A (s : State) : Result := ldR8R8 .B .A s
/-- `LD C,B` (R250). -/
def execLd_C_B (s : State) : Result := ldR8R8 .C .B s
/-- `LD C,C` (R250). -/
def execLd_C_C (s : State) : Result := ldR8R8 .C .C s
/-- `LD C,D` (R250). -/
def execLd_C_D (s : State) : Result := ldR8R8 .C .D s
/-- `LD C,E` (R250). -/
def execLd_C_E (s : State) : Result := ldR8R8 .C .E s
/-- `LD C,H` (R250). -/
def execLd_C_H (s : State) : Result := ldR8R8 .C .H s
/-- `LD C,L` (R250). -/
def execLd_C_L (s : State) : Result := ldR8R8 .C .L s
/-- `LD C,A` (R250). -/
def execLd_C_A (s : State) : Result := ldR8R8 .C .A s
/-- `LD D,B` (R250). -/
def execLd_D_B (s : State) : Result := ldR8R8 .D .B s
/-- `LD D,C` (R250). -/
def execLd_D_C (s : State) : Result := ldR8R8 .D .C s
/-- `LD D,D` (R250). -/
def execLd_D_D (s : State) : Result := ldR8R8 .D .D s
/-- `LD D,E` (R250). -/
def execLd_D_E (s : State) : Result := ldR8R8 .D .E s
/-- `LD D,H` (R250). -/
def execLd_D_H (s : State) : Result := ldR8R8 .D .H s
/-- `LD D,L` (R250). -/
def execLd_D_L (s : State) : Result := ldR8R8 .D .L s
/-- `LD D,A` (R250). -/
def execLd_D_A (s : State) : Result := ldR8R8 .D .A s
/-- `LD E,B` (R250). -/
def execLd_E_B (s : State) : Result := ldR8R8 .E .B s
/-- `LD E,C` (R250). -/
def execLd_E_C (s : State) : Result := ldR8R8 .E .C s
/-- `LD E,D` (R250). -/
def execLd_E_D (s : State) : Result := ldR8R8 .E .D s
/-- `LD E,E` (R250). -/
def execLd_E_E (s : State) : Result := ldR8R8 .E .E s
/-- `LD E,H` (R250). -/
def execLd_E_H (s : State) : Result := ldR8R8 .E .H s
/-- `LD E,L` (R250). -/
def execLd_E_L (s : State) : Result := ldR8R8 .E .L s
/-- `LD E,A` (R250). -/
def execLd_E_A (s : State) : Result := ldR8R8 .E .A s
/-- `LD H,B` (R250). -/
def execLd_H_B (s : State) : Result := ldR8R8 .H .B s
/-- `LD H,C` (R250). -/
def execLd_H_C (s : State) : Result := ldR8R8 .H .C s
/-- `LD H,D` (R250). -/
def execLd_H_D (s : State) : Result := ldR8R8 .H .D s
/-- `LD H,E` (R250). -/
def execLd_H_E (s : State) : Result := ldR8R8 .H .E s
/-- `LD H,H` (R250). -/
def execLd_H_H (s : State) : Result := ldR8R8 .H .H s
/-- `LD H,L` (R250). -/
def execLd_H_L (s : State) : Result := ldR8R8 .H .L s
/-- `LD H,A` (R250). -/
def execLd_H_A (s : State) : Result := ldR8R8 .H .A s
/-- `LD L,B` (R250). -/
def execLd_L_B (s : State) : Result := ldR8R8 .L .B s
/-- `LD L,C` (R250). -/
def execLd_L_C (s : State) : Result := ldR8R8 .L .C s
/-- `LD L,D` (R250). -/
def execLd_L_D (s : State) : Result := ldR8R8 .L .D s
/-- `LD L,E` (R250). -/
def execLd_L_E (s : State) : Result := ldR8R8 .L .E s
/-- `LD L,H` (R250). -/
def execLd_L_H (s : State) : Result := ldR8R8 .L .H s
/-- `LD L,L` (R250). -/
def execLd_L_L (s : State) : Result := ldR8R8 .L .L s
/-- `LD L,A` (R250). -/
def execLd_L_A (s : State) : Result := ldR8R8 .L .A s
/-- `LD A,B` (R250). -/
def execLd_A_B (s : State) : Result := ldR8R8 .A .B s
/-- `LD A,C` (R250). -/
def execLd_A_C (s : State) : Result := ldR8R8 .A .C s
/-- `LD A,D` (R250). -/
def execLd_A_D (s : State) : Result := ldR8R8 .A .D s
/-- `LD A,E` (R250). -/
def execLd_A_E (s : State) : Result := ldR8R8 .A .E s
/-- `LD A,H` (R250). -/
def execLd_A_H (s : State) : Result := ldR8R8 .A .H s
/-- `LD A,L` (R250). -/
def execLd_A_L (s : State) : Result := ldR8R8 .A .L s
/-- `LD A,A` (R250). -/
def execLd_A_A (s : State) : Result := ldR8R8 .A .A s

/-- `LD B,[HL]` (R252). -/
def execLd_B_mHL (s : State) : Result := ldR8HL .B s
/-- `LD C,[HL]` (R252). -/
def execLd_C_mHL (s : State) : Result := ldR8HL .C s
/-- `LD D,[HL]` (R252). -/
def execLd_D_mHL (s : State) : Result := ldR8HL .D s
/-- `LD E,[HL]` (R252). -/
def execLd_E_mHL (s : State) : Result := ldR8HL .E s
/-- `LD H,[HL]` (R252). -/
def execLd_H_mHL (s : State) : Result := ldR8HL .H s
/-- `LD L,[HL]` (R252). -/
def execLd_L_mHL (s : State) : Result := ldR8HL .L s
/-- `LD A,[HL]` (R252). -/
def execLd_A_mHL (s : State) : Result := ldR8HL .A s

/-- `LD [HL],B` (R253). -/
def execLd_mHL_B (s : State) : Result := ldHLR8 .B s
/-- `LD [HL],C` (R253). -/
def execLd_mHL_C (s : State) : Result := ldHLR8 .C s
/-- `LD [HL],D` (R253). -/
def execLd_mHL_D (s : State) : Result := ldHLR8 .D s
/-- `LD [HL],E` (R253). -/
def execLd_mHL_E (s : State) : Result := ldHLR8 .E s
/-- `LD [HL],H` (R253). -/
def execLd_mHL_H (s : State) : Result := ldHLR8 .H s
/-- `LD [HL],L` (R253). -/
def execLd_mHL_L (s : State) : Result := ldHLR8 .L s
/-- `LD [HL],A` (R253). -/
def execLd_mHL_A (s : State) : Result := ldHLR8 .A s

/-- `LDH [n8],A` (R262). -/
def execLdh_mN8_A (n8 : Byte) (s : State) : Result := ldhN8A n8 s

/-- `LDH [C],A` (R264). -/
def execLdh_mC_A (s : State) : Result := ldhCA s

/-- `LD [n16],A` (R260). -/
def execLd_mN16_A (n16 : Word) (s : State) : Result := ldN16A n16 s

/-- `LDH A,[n8]` (R261). -/
def execLdh_A_mN8 (n8 : Byte) (s : State) : Result := ldhAN8 n8 s

/-- `LDH A,[C]` (R263). -/
def execLdh_A_mC (s : State) : Result := ldhAC s

/-- `LD A,[n16]` (R259). -/
def execLd_A_mN16 (n16 : Word) (s : State) : Result := ldAN16 n16 s

end Sys2Proof.Machine
end

