-- ==== Sys2Proof/Machine/Rotate.lean ====
section
/-! DEFINITION. The rotates and shifts (45_rotate_shift_bit.md, R400 to R419). First the meaning of each form, then one
definition for each row of the opcode table. -/

namespace Sys2Proof.Machine

/-- R400 `RLCA`, R401 `RRCA`, R402 `RLA`, R403 `RRA`: Z is forced to 0. -/
def accRot (op : AccRot) (s : State) : Result :=
  let r := accRotApply op (s.reg .A) s.flags.c
  .next (((s.setReg .A r.value).setFlags .zero .zero .zero (.to r.flags.c)).retire (s.nextPc 1) 1)

/-- A rotate or shift of a byte operand: Z and C computed, N and H cleared (R404 to R419; `SWAP`'s C is 0). -/
def shiftOpd (op : ShiftOp) (o : Opd8) (cycles : Nat) (s : State) : Result :=
  let y := s.rd8 o
  let r := shiftApply op y.1 s.flags.c
  .next (((y.2.wr8 o r.value).setFlags (.to r.flags.z) .zero .zero (.to r.flags.c)).retire (s.nextPc 2) cycles)

/-- The register forms: R404, R406, R408, R410, R412, R414, R416, R418. -/
def shiftR8 (op : ShiftOp) (r : Reg8) (s : State) : Result := shiftOpd op (.reg r) 2 s

/-- The `[HL]` forms: R405, R407, R409, R411, R413, R415, R417, R419. -/
def shiftHL (op : ShiftOp) (s : State) : Result := shiftOpd op .atHL 4 s

/-! ### One definition for each row of the opcode table -/

/-- `RLCA` (R400). -/
def execRlca (s : State) : Result := accRot .RLCA s

/-- `RRCA` (R401). -/
def execRrca (s : State) : Result := accRot .RRCA s

/-- `RLA` (R402). -/
def execRla (s : State) : Result := accRot .RLA s

/-- `RRA` (R403). -/
def execRra (s : State) : Result := accRot .RRA s

/-- `RLC B` (R404). -/
def execRlc_B (s : State) : Result := shiftR8 .RLC .B s
/-- `RLC C` (R404). -/
def execRlc_C (s : State) : Result := shiftR8 .RLC .C s
/-- `RLC D` (R404). -/
def execRlc_D (s : State) : Result := shiftR8 .RLC .D s
/-- `RLC E` (R404). -/
def execRlc_E (s : State) : Result := shiftR8 .RLC .E s
/-- `RLC H` (R404). -/
def execRlc_H (s : State) : Result := shiftR8 .RLC .H s
/-- `RLC L` (R404). -/
def execRlc_L (s : State) : Result := shiftR8 .RLC .L s
/-- `RLC A` (R404). -/
def execRlc_A (s : State) : Result := shiftR8 .RLC .A s

/-- `RLC [HL]` (R405). -/
def execRlc_mHL (s : State) : Result := shiftHL .RLC s

/-- `RRC B` (R406). -/
def execRrc_B (s : State) : Result := shiftR8 .RRC .B s
/-- `RRC C` (R406). -/
def execRrc_C (s : State) : Result := shiftR8 .RRC .C s
/-- `RRC D` (R406). -/
def execRrc_D (s : State) : Result := shiftR8 .RRC .D s
/-- `RRC E` (R406). -/
def execRrc_E (s : State) : Result := shiftR8 .RRC .E s
/-- `RRC H` (R406). -/
def execRrc_H (s : State) : Result := shiftR8 .RRC .H s
/-- `RRC L` (R406). -/
def execRrc_L (s : State) : Result := shiftR8 .RRC .L s
/-- `RRC A` (R406). -/
def execRrc_A (s : State) : Result := shiftR8 .RRC .A s

/-- `RRC [HL]` (R407). -/
def execRrc_mHL (s : State) : Result := shiftHL .RRC s

/-- `RL B` (R408). -/
def execRl_B (s : State) : Result := shiftR8 .RL .B s
/-- `RL C` (R408). -/
def execRl_C (s : State) : Result := shiftR8 .RL .C s
/-- `RL D` (R408). -/
def execRl_D (s : State) : Result := shiftR8 .RL .D s
/-- `RL E` (R408). -/
def execRl_E (s : State) : Result := shiftR8 .RL .E s
/-- `RL H` (R408). -/
def execRl_H (s : State) : Result := shiftR8 .RL .H s
/-- `RL L` (R408). -/
def execRl_L (s : State) : Result := shiftR8 .RL .L s
/-- `RL A` (R408). -/
def execRl_A (s : State) : Result := shiftR8 .RL .A s

/-- `RL [HL]` (R409). -/
def execRl_mHL (s : State) : Result := shiftHL .RL s

/-- `RR B` (R410). -/
def execRr_B (s : State) : Result := shiftR8 .RR .B s
/-- `RR C` (R410). -/
def execRr_C (s : State) : Result := shiftR8 .RR .C s
/-- `RR D` (R410). -/
def execRr_D (s : State) : Result := shiftR8 .RR .D s
/-- `RR E` (R410). -/
def execRr_E (s : State) : Result := shiftR8 .RR .E s
/-- `RR H` (R410). -/
def execRr_H (s : State) : Result := shiftR8 .RR .H s
/-- `RR L` (R410). -/
def execRr_L (s : State) : Result := shiftR8 .RR .L s
/-- `RR A` (R410). -/
def execRr_A (s : State) : Result := shiftR8 .RR .A s

/-- `RR [HL]` (R411). -/
def execRr_mHL (s : State) : Result := shiftHL .RR s

/-- `SLA B` (R412). -/
def execSla_B (s : State) : Result := shiftR8 .SLA .B s
/-- `SLA C` (R412). -/
def execSla_C (s : State) : Result := shiftR8 .SLA .C s
/-- `SLA D` (R412). -/
def execSla_D (s : State) : Result := shiftR8 .SLA .D s
/-- `SLA E` (R412). -/
def execSla_E (s : State) : Result := shiftR8 .SLA .E s
/-- `SLA H` (R412). -/
def execSla_H (s : State) : Result := shiftR8 .SLA .H s
/-- `SLA L` (R412). -/
def execSla_L (s : State) : Result := shiftR8 .SLA .L s
/-- `SLA A` (R412). -/
def execSla_A (s : State) : Result := shiftR8 .SLA .A s

/-- `SLA [HL]` (R413). -/
def execSla_mHL (s : State) : Result := shiftHL .SLA s

/-- `SRA B` (R414). -/
def execSra_B (s : State) : Result := shiftR8 .SRA .B s
/-- `SRA C` (R414). -/
def execSra_C (s : State) : Result := shiftR8 .SRA .C s
/-- `SRA D` (R414). -/
def execSra_D (s : State) : Result := shiftR8 .SRA .D s
/-- `SRA E` (R414). -/
def execSra_E (s : State) : Result := shiftR8 .SRA .E s
/-- `SRA H` (R414). -/
def execSra_H (s : State) : Result := shiftR8 .SRA .H s
/-- `SRA L` (R414). -/
def execSra_L (s : State) : Result := shiftR8 .SRA .L s
/-- `SRA A` (R414). -/
def execSra_A (s : State) : Result := shiftR8 .SRA .A s

/-- `SRA [HL]` (R415). -/
def execSra_mHL (s : State) : Result := shiftHL .SRA s

/-- `SWAP B` (R416). -/
def execSwap_B (s : State) : Result := shiftR8 .SWAP .B s
/-- `SWAP C` (R416). -/
def execSwap_C (s : State) : Result := shiftR8 .SWAP .C s
/-- `SWAP D` (R416). -/
def execSwap_D (s : State) : Result := shiftR8 .SWAP .D s
/-- `SWAP E` (R416). -/
def execSwap_E (s : State) : Result := shiftR8 .SWAP .E s
/-- `SWAP H` (R416). -/
def execSwap_H (s : State) : Result := shiftR8 .SWAP .H s
/-- `SWAP L` (R416). -/
def execSwap_L (s : State) : Result := shiftR8 .SWAP .L s
/-- `SWAP A` (R416). -/
def execSwap_A (s : State) : Result := shiftR8 .SWAP .A s

/-- `SWAP [HL]` (R417). -/
def execSwap_mHL (s : State) : Result := shiftHL .SWAP s

/-- `SRL B` (R418). -/
def execSrl_B (s : State) : Result := shiftR8 .SRL .B s
/-- `SRL C` (R418). -/
def execSrl_C (s : State) : Result := shiftR8 .SRL .C s
/-- `SRL D` (R418). -/
def execSrl_D (s : State) : Result := shiftR8 .SRL .D s
/-- `SRL E` (R418). -/
def execSrl_E (s : State) : Result := shiftR8 .SRL .E s
/-- `SRL H` (R418). -/
def execSrl_H (s : State) : Result := shiftR8 .SRL .H s
/-- `SRL L` (R418). -/
def execSrl_L (s : State) : Result := shiftR8 .SRL .L s
/-- `SRL A` (R418). -/
def execSrl_A (s : State) : Result := shiftR8 .SRL .A s

/-- `SRL [HL]` (R419). -/
def execSrl_mHL (s : State) : Result := shiftHL .SRL s

end Sys2Proof.Machine
end

