-- ==== Sys2Proof/Machine/System.lean ====
section
/-! DEFINITION. The system instructions and the eleven undefined encodings (47_system.md, R480 to R485). First the
meaning of each form, then one definition for each row of the opcode table. -/

namespace Sys2Proof.Machine

/-- R480 `NOP`. -/
def nop (s : State) : Result := .next (s.retire (s.nextPc 1) 1)

/-- R481 `HALT`: its cost is not charged (conflict C5). -/
def halt (s : State) : Result := .next { s with pc := s.nextPc 1, halted := true, wait := 0 }

/-- R482 `STOP`: the spec gives it no behaviour and names this fault; no operand byte, no state change. -/
def stop (s : State) : Result := .fault (.unspecifiedInstruction 0x10 s.pc)

/-- R483 `DI`. -/
def di (s : State) : Result := .next (({ s with ime := false }).retire (s.nextPc 1) 1)

/-- R484 `EI`: IME is set at once (P13). -/
def ei (s : State) : Result := .next (({ s with ime := true }).retire (s.nextPc 1) 1)

/-- R485: a primary opcode without a descriptor is a fault at decode; no state change. -/
def illegal (op : Byte) (s : State) : Result := .fault (.illegalOpcode op s.pc)

/-! ### One definition for each row of the opcode table -/

/-- `NOP` (R480). -/
def execNop (s : State) : Result := nop s

/-- `STOP` (R482). -/
def execStop (s : State) : Result := stop s

/-- `HALT` (R481). -/
def execHalt (s : State) : Result := halt s

/-- `ILLEGAL_D3` (R485). -/
def execIllegal_D3 (s : State) : Result := illegal 0xD3 s
/-- `ILLEGAL_DB` (R485). -/
def execIllegal_DB (s : State) : Result := illegal 0xDB s
/-- `ILLEGAL_DD` (R485). -/
def execIllegal_DD (s : State) : Result := illegal 0xDD s
/-- `ILLEGAL_E3` (R485). -/
def execIllegal_E3 (s : State) : Result := illegal 0xE3 s
/-- `ILLEGAL_E4` (R485). -/
def execIllegal_E4 (s : State) : Result := illegal 0xE4 s
/-- `ILLEGAL_EB` (R485). -/
def execIllegal_EB (s : State) : Result := illegal 0xEB s
/-- `ILLEGAL_EC` (R485). -/
def execIllegal_EC (s : State) : Result := illegal 0xEC s
/-- `ILLEGAL_ED` (R485). -/
def execIllegal_ED (s : State) : Result := illegal 0xED s
/-- `ILLEGAL_F4` (R485). -/
def execIllegal_F4 (s : State) : Result := illegal 0xF4 s
/-- `ILLEGAL_FC` (R485). -/
def execIllegal_FC (s : State) : Result := illegal 0xFC s
/-- `ILLEGAL_FD` (R485). -/
def execIllegal_FD (s : State) : Result := illegal 0xFD s

/-- `DI` (R483). -/
def execDi (s : State) : Result := di s

/-- `EI` (R484). -/
def execEi (s : State) : Result := ei s

end Sys2Proof.Machine
end

