-- ==== Sys2Proof/Machine/Execute.lean ====
section
/-! DEFINITION. One cycle of the machine (60_exceptions.md section 1): taking in what the outside world did, fetching
and executing an instruction (R504), and the choice between halted, busy, dispatch and execute (R500). -/

namespace Sys2Proof.Machine

/-! ### Fetch and execute -/

/-- The byte a fetch reads `k` bytes after PC: an ordinary bus read (R119, R158). -/
def State.fetchByte (s : State) (k : Nat) : Byte := s.busRead true (s.nextPc k)

/-- The instruction at PC (R152). -/
def State.fetched (s : State) : Instr := decode3 (s.fetchByte 0) (s.fetchByte 1) (s.fetchByte 2)

/-- The record of the first `n` fetch reads of a step, in address order (R158, R114). -/
def State.noteFetches (s : State) (n : Nat) : State :=
  match n with
  | 0 => s
  | k + 1 => (s.noteFetches k).note (.fetch (s.nextPc k) (s.fetchByte k))

/-- `execute_instruction` (R504). -/
def executeInstruction (s : State) : Result := exec s.fetched (s.noteFetches s.fetched.length)

/-! ### One cycle -/

/-- A cycle in which the outside world does nothing. -/
def CycleInput.quiet : CycleInput := { reset := false, writes := [], irq := 0 }

/-- What the outside world did since CORE's previous step (R35). -/
def State.input (s : State) : CycleInput := s.inputs.headD CycleInput.quiet

/-- The state in which CORE's step of a cycle begins: CORE being clocked last (P18), the other masters' writes have
happened (R120) and the requests are merged into IF (R500, R510, R514). -/
def State.beginCycle (s : State) : State :=
  let s1 := { s with cycle := s.cycle + 1, inputs := s.inputs.tail, accesses := [] }
  (s1.externalWrites s.input.writes).mergeRequests s.input.irq

/-- CORE's step of a cycle (R500 to R504): halted, busy, interrupt dispatch, or one instruction. -/
def coreStep (s : State) : Result :=
  let s1 := s.wake
  if s1.halted then .next s1
  else if s1.wait > 0 then .next { s1 with wait := s1.wait - 1 }
  else if s1.ime && s1.pending then dispatchInterrupt s1
  else executeInstruction s1

/-- One cycle: while the reset line is asserted CORE takes its reset values and no step (R560); otherwise its step. -/
def clock (s : State) : Result :=
  if s.input.reset then .next s.beginCycle.coreReset else coreStep s.beginCycle

/-! ### Placing an instruction -/

/-- Three bytes stored at PC through the bus. -/
def State.placeBytes (s : State) (b : Byte × Byte × Byte) : State :=
  ((s.busWrite s.pc b.1).busWrite (s.pc + 1) b.2.1).busWrite (s.pc + 2) b.2.2

/-- A state whose very next cycle executes an instruction: not halted, not busy, no input waiting, and no request that
would be dispatched first. -/
def State.readyToExecute (s : State) : State :=
  { s with
    halted := false
    wait := 0
    inputs := []
    ifr := if s.ime && s.pending then 0 else s.ifr }

end Sys2Proof.Machine
end

