-- ==== Sys2Proof/Machine/Step.lean ====
section
/-! DEFINITION. The step: one call of the driver's `cycle` (R500). -/

namespace Sys2Proof.Machine

/-- One step of the machine. -/
def step (s : State) : Host.Outcome State Fault Refusal := clock s

/-- `s` with the instruction of a table word stored where the next step fetches, PC lying in storage that the bus can
write. A program is loaded from outside the machine, and this stands for that load (assumption 9). -/
def State.withFetchWord (s : State) (nbits w : Nat) : State := (s.placeBytes (tableBytes nbits w)).readyToExecute

end Sys2Proof.Machine
end

