-- ==== Sys2Proof/WellFormed.lean ====
section
/-! DEFINITION. The well-formedness check of an instruction. Every operand has a type of its own width (R10), so no
operand value can be ill-formed; what is checked is that the row has a descriptor (R150, R164). -/

namespace Sys2Proof

/-- The eleven primary bytes that have no descriptor (R164). -/
def undefinedOpcodes : List Byte := [0xD3, 0xDB, 0xDD, 0xE3, 0xE4, 0xEB, 0xEC, 0xED, 0xF4, 0xFC, 0xFD]

/-- Whether a form is one of the defined ones (R164, R167). -/
def Form.hasDescriptor (f : Form) : Bool :=
  match f with
  | .illegal _ => false
  | .ldR8R8 _ _ | .ldR8N8 _ _ | .ldR8HL _ | .ldHLR8 _ | .ldHLN8 _ | .ldABC | .ldADE | .ldBCA | .ldDEA | .ldAN16 _
  | .ldN16A _ | .ldhAN8 _ | .ldhN8A _ | .ldhAC | .ldhCA | .ldAHLInc | .ldAHLDec | .ldHLIncA | .ldHLDecA
  | .ldR16N16 _ _ | .ldN16SP _ | .ldSPHL | .push _ | .pop _ | .aluR8 _ _ | .aluHL _ | .aluN8 _ _ | .incR8 _ | .incHL
  | .decR8 _ | .decHL | .daa | .cpl | .scf | .ccf | .addHLR16 _ | .incR16 _ | .decR16 _ | .addSPE8 _ | .ldHLSPE8 _
  | .accRot _ | .shiftR8 _ _ | .shiftHL _ | .bitR8 _ _ | .bitHL _ | .resR8 _ _ | .resHL _ | .setR8 _ _ | .setHL _
  | .jpN16 _ | .jpCC _ _ | .jpHL | .jrE8 _ | .jrCC _ _ | .callN16 _ | .callCC _ _ | .ret | .retCC _ | .reti | .rst _
  | .nop | .halt | .stop | .di | .ei => true

/-- An instruction is well-formed when its row has a descriptor. -/
def Instr.wellFormed (i : Instr) : Bool := i.form.hasDescriptor

end Sys2Proof
end

