-- ==== Sys2Proof/Safety.lean ====
section
/-! DEFINITION. What claims count as a good state and a safe run. -/

namespace Sys2Proof.Machine

/-- A platform component in canonical form: its cells lie in its range (R102). -/
def Component.wf (k : Component) : Bool :=
  match k with
  | .ram first last cells | .rom first last cells => cells.wfIn first.toNat last.toNat
  | .device _ _ _ => true

/-- The machine's invariant: bits 3..0 of F are zero (R52), the fast RAM is canonical and has 127 bytes (R68), every
platform component is canonical, a halted CORE waits for nothing (R481, conflict C5), and no wait is longer than that
of the dearest instruction (R580, R502). -/
def State.wf (s : State) : Bool :=
  decide (s.regs.f &&& 0x0F = 0) && s.hram.wfIn 0 126 && s.before.all Component.wf && s.after.all Component.wf
    && decide (s.halted = true → s.wait = 0) && decide (s.wait ≤ 5)

/-- The first component in attach order that claims an address (R102, R103). -/
def firstOwner (ks : List Component) (a : Word) : Option Component := ks.find? (fun k => k.owns a)

/-- Whether a component is plain read-write storage. -/
def Component.isRam (k : Component) : Bool :=
  match k with
  | .ram _ _ _ => true
  | .rom _ _ _ => false
  | .device _ _ _ => false

/-- Whether the component that claims `a` first is plain storage: a platform RAM, or CORE's own three (R108). At such
an address a read gives what was last written; at others it is the component's business (R102, R114). -/
def State.storageAt (s : State) (a : Word) : Bool :=
  match firstOwner s.before a with
  | some k => k.isRam
  | none =>
    (s.coreRead a).isSome ||
      match firstOwner s.after a with
      | some k => k.isRam
      | none => false

/-- The step or instruction ended in a next state. -/
def isNext (r : Result) : Bool :=
  match r with
  | .next _ => true
  | .fault _ => false
  | .refused _ => false

/-- A safe run of `n` cycles: no fault and no refusal in them. That a run ends after a fixed number of cycles is this
model's choice of end-of-run condition, which R540 and decision D20 leave to the model (DESIGN CHOICE, assumption 23). -/
def safeRun (n : Nat) (s : State) : Bool := isNext (Host.Core.run Sys2Proof.core n s)

/-- The base and the taken-branch extra of a form's cycle cost (parameter P12, the table of R580). The meanings do not
read this table: a claim compares the two. -/
def costTable (f : Form) : Nat × Nat :=
  match f with
  | .nop | .ldR8R8 _ _ | .incR8 _ | .decR8 _ | .aluR8 _ _ | .accRot _ | .daa | .cpl | .scf | .ccf | .jpHL | .di | .ei
  | .halt | .stop => (1, 0)
  | .ldR8N8 _ _ | .ldR8HL _ | .ldHLR8 _ | .ldABC | .ldADE | .ldBCA | .ldDEA | .ldAHLInc | .ldAHLDec | .ldHLIncA
  | .ldHLDecA | .ldhAC | .ldhCA | .ldSPHL | .incR16 _ | .decR16 _ | .addHLR16 _ | .aluHL _ | .aluN8 _ _
  | .shiftR8 _ _ | .bitR8 _ _ | .resR8 _ _ | .setR8 _ _ => (2, 0)
  | .jrCC _ _ => (2, 1)
  | .retCC _ => (2, 3)
  | .ldR16N16 _ _ | .ldHLN8 _ | .incHL | .decHL | .ldhAN8 _ | .ldhN8A _ | .ldHLSPE8 _ | .pop _ | .jrE8 _
  | .bitHL _ => (3, 0)
  | .jpCC _ _ => (3, 1)
  | .callCC _ _ => (3, 3)
  | .jpN16 _ | .push _ | .ret | .reti | .rst _ | .addSPE8 _ | .ldAN16 _ | .ldN16A _ | .shiftHL _ | .resHL _
  | .setHL _ => (4, 0)
  | .ldN16SP _ => (5, 0)
  | .callN16 _ => (6, 0)
  | .illegal _ => (0, 0)

/-- Whether the branch condition of a conditional form holds; forms without a condition have none (R150, R156). -/
def conditionHolds (f : Form) (s : State) : Bool :=
  match f with
  | .jrCC c _ | .jpCC c _ | .callCC c _ | .retCC c => s.cond c
  | _ => false

end Sys2Proof.Machine
end

