-- ==== Sys2Proof/Certificates/Slice0/Obligations.lean ====
section
/-! DEFINITION. What is claimed of this model, for the provers. The statements about instructions go by the form a row of
the opcode table is an encoding of (`Instr.form`), so that one statement speaks of every row of the forms it lists: its
encoding, the state `exec` answers with, written out against the state before (every field not named is unchanged), and
the bytes of memory that read as before. -/

open Sys2Proof Sys2Proof.Machine

namespace Sys2Proof.Machine

/-- `exec i s` ANSWERS the next state `t`, and every byte of memory outside `stored` reads after as it read before. -/
def runsTo (i : Instr) (s t : State) (stored : List Word) : Prop :=
  exec i s = .next t ∧ ∀ a, a ∉ stored → t.byteAt a = s.byteAt a

end Sys2Proof.Machine

/-! ### Encoding -/

/-- Words written out bit by bit from the encodings of R157 and R159 to R163 decode to the instructions they stand for
(R152). One word at least of every family; the bytes past an instruction are left over. -/
def Obligations.WrittenOutWordsDecode : Prop :=
  decode [0b01_000_001] = .ok (.ld_B_C, [])
  ∧ decode [0b00_111_110, 0x42, 0x99] = .ok (.ld_A_n8 0x42, [0x99])
  ∧ decode [0b00_10_1_010] = .ok (.ld_A_mHLinc, [])
  ∧ decode [0b111_00_000, 0x80] = .ok (.ldh_mN8_A 0x80, [])
  ∧ decode [0b00_11_0001, 0xFE, 0xFF] = .ok (.ld_SP_n16 0xFFFE, [])
  ∧ decode [0b11_11_0101] = .ok (.push_AF, [])
  ∧ decode [0b10_011_100] = .ok (.sbc_A_H, [])
  ∧ decode [0b11_111_110, 0x3C] = .ok (.cp_A_n8 0x3C, [])
  ∧ decode [0b00_110_101] = .ok (.dec_mHL, [])
  ∧ decode [0b00_10_1001] = .ok (.add_HL_HL, [])
  ∧ decode [0b00_011_111] = .ok (.rra, [])
  ∧ decode [0b1100_1011, 0b00_111_110] = .ok (.srl_mHL, [])
  ∧ decode [0b1100_1011, 0b11_001_011] = .ok (.set_1_E, [])
  ∧ decode [0b001_11_000, 0x10] = .ok (.jr_C_e8 0x10, [])
  ∧ decode [0b110_01_100, 0x34, 0x12] = .ok (.call_Z_n16 0x1234, [])
  ∧ decode [0b11_101_111] = .ok (.rst_28, [])
  ∧ decode [0b01_110_110] = .ok (.halt, [])
  ∧ decode [0b11_011_101] = .ok (.illegal_DD, [])

/-- Encode, then decode: every instruction comes back with every operand, and what follows it is left over. -/
def Obligations.DecodeOfEncode : Prop :=
  ∀ (i : Instr) (rest : List Byte), decode (encode i ++ rest) = .ok (i, rest)

/-- Decode, then encode: a byte list that decodes is the encoding of what it decodes to and the bytes left over, so no
byte of an instruction is ignored and two encodings never mean one instruction. -/
def Obligations.EncodeOfDecode : Prop :=
  ∀ (bytes rest : List Byte) (i : Instr), decode bytes = .ok (i, rest) → bytes = encode i ++ rest

/-- The length of an instruction is known from its first byte alone, and the escape byte does not nest (R152). -/
def Obligations.LengthFromFirstByte : Prop :=
  ∀ op b1 b2 : Byte,
    (decode3 op b1 b2).length = (if op = 0xCB then 2 else (decode3 op 0 0).length)
    ∧ 1 ≤ (decode3 op b1 b2).length ∧ (decode3 op b1 b2).length ≤ 3

/-- The encodings without a descriptor are the eleven primary bytes of R164 and no others; every secondary entry is
defined (R163), and no operand byte makes an instruction ill-formed (R165). -/
def Obligations.ElevenUndefinedOpcodes : Prop :=
  ∀ op b1 b2 : Byte,
    (decode3 op b1 b2).wellFormed = false ↔
      op ∈ ([0xD3, 0xDB, 0xDD, 0xE3, 0xE4, 0xEB, 0xEC, 0xED, 0xF4, 0xFC, 0xFD] : List Byte)

/-! ### The step -/

/-- A STEP RUNS THE DECODED INSTRUCTION. When CORE, with this cycle's inputs taken in and woken if it was to be woken,
is neither halted nor busy and takes no interrupt, and the bytes that a fetch reads at PC decode to `i`, then the step
is `exec i` at that state, with exactly the fetches of `i`'s bytes, in ascending order, on the record of accesses. -/
def Obligations.StepRunsDecodedInstruction : Prop :=
  ∀ (s : State) (i : Instr) (rest : List Byte),
    let b := s.beginCycle.wake
    s.input.reset = false → b.halted = false → b.wait = 0 → (b.ime && b.pending) = false →
    decode [b.busRead true b.pc, b.busRead true (b.pc + 1), b.busRead true (b.pc + 2)] = .ok (i, rest) →
    step s = exec i { b with
      accesses := (List.range i.length).map fun k =>
        BusAccess.fetch (b.pc + BitVec.ofNat 16 k) (b.busRead true (b.pc + BitVec.ofNat 16 k)) }

/-- What has happened when CORE's step of a cycle begins (R500 first line, R510, R514, R120; that CORE is clocked last is
decision D19, assumption 10): each source that was requested has its IF bit set and no other bit of IF changed, the
writes of other masters are done, oldest first, and nothing else of CORE is touched. -/
def Obligations.InputsArriveBeforeTheStep : Prop :=
  (∀ s : State, s.input.writes = [] →
    s.beginCycle = { s with
      ifr := s.ifr ||| s.input.irq.setWidth 8
      cycle := s.cycle + 1
      inputs := s.inputs.tail
      accesses := [] }
    ∧ (∀ k : IrqSource,
        Bits.test s.beginCycle.ifr k.index = (Bits.test s.ifr k.index || Bits.test s.input.irq k.index))
    ∧ ∀ j, 5 ≤ j → Bits.test s.beginCycle.ifr j = Bits.test s.ifr j)
  ∧ ∀ (s : State) (r : Bool) (a : Word) (v : Byte) (ws : List (Word × Byte)) (q : BitVec 5) (rest : List CycleInput),
      s.inputs = { reset := r, writes := (a, v) :: ws, irq := q } :: rest →
      s.beginCycle = { s.busWrite a v with inputs := { reset := r, writes := ws, irq := q } :: rest }.beginCycle

/-- Busy (R502): while `wait > 0` a step records the requests in IF and decrements `wait`, with no bus access; so a CORE
that waits `n` cycles, with nothing happening outside, is active again after exactly `n` steps and not before. -/
def Obligations.BusyStepsOnlyCountDown : Prop :=
  (∀ s : State, s.input.reset = false → s.halted = false → 0 < s.wait →
    step s = .next { s.beginCycle with wait := s.wait - 1 } ∧ s.beginCycle.accesses = [])
  ∧ ∀ s : State, s.inputs = [] → s.halted = false →
      Host.Core.run core s.wait s = .next { s with
        wait := 0
        cycle := s.cycle + s.wait
        accesses := if s.wait = 0 then s.accesses else [] }

/-- Halted (R500, R481, R540, R550). A step in which nothing becomes pending, whatever happens outside (a request whose
IE bit is 0, a bus write of another master), is what the beginning of the cycle does and nothing more: no bus access, and
every register, SP, PC, IME, the halted flag and the wait counter as they were. With nothing happening outside, any number
of steps leaves everything as it is, for ever. -/
def Obligations.HaltedStaysHalted : Prop :=
  (∀ s : State, s.input.reset = false → s.halted = true → (s.beginCycle.ie &&& s.beginCycle.ifr) = 0 →
    step s = .next s.beginCycle
    ∧ s.beginCycle.accesses = [] ∧ s.beginCycle.regs = s.regs ∧ s.beginCycle.sp = s.sp ∧ s.beginCycle.pc = s.pc
    ∧ s.beginCycle.ime = s.ime ∧ s.beginCycle.halted = true ∧ s.beginCycle.wait = s.wait)
  ∧ ∀ (n : Nat) (s : State), s.halted = true → s.inputs = [] → (s.ie &&& s.ifr) = 0 →
      Host.Core.run core n s = .next { s with
        cycle := s.cycle + n
        accesses := if n = 0 then s.accesses else [] }

/-- Wake from halt (R501): when a request is pending once this cycle's requests are merged, whatever IME is, the step is
the step of the same CORE not halted and not busy. -/
def Obligations.WakeFallsThrough : Prop :=
  ∀ s : State, s.input.reset = false → s.halted = true →
    (s.beginCycle.ie &&& s.beginCycle.ifr) ≠ 0 →
    step s = step { s with halted := false, wait := 0 }

/-- TAKING AN INTERRUPT (R500, R503, R515, R522; the addresses 0x40 and the cost 5 are parameters P4 and P5): at an
active step with IME set, the least pending and enabled source `k` is dispatched: its IF bit and IME are cleared, then PC
is pushed, the high byte first, then PC goes to `0x40 + 8k` and four busy steps follow. No instruction is fetched, and no
register but SP changes. -/
def Obligations.InterruptIsTaken : Prop :=
  ∀ (s : State) (k : IrqSource),
    let b := s.beginCycle
    s.input.reset = false → s.halted = false → s.wait = 0 → s.ime = true →
    Bits.test (b.ie &&& b.ifr) k.index = true →
    (∀ j : IrqSource, j.index < k.index → Bits.test (b.ie &&& b.ifr) j.index = false) →
    let c := { b with ifr := Bits.set b.ifr k.index false, ime := false }
    step s = .next { (c.busWrite (b.sp - 1) (Bits.high b.pc)).busWrite (b.sp - 2) (Bits.low b.pc) with
      sp := b.sp - 2
      pc := 0x0040 + BitVec.ofNat 16 (8 * k.index)
      wait := 4
      accesses := [.write (b.sp - 1) (Bits.high b.pc), .write (b.sp - 2) (Bits.low b.pc)] }

/-- R515, the source's property: of two pending and enabled sources the one with the lower index is serviced first, only
its bit of IF is cleared, and the other stays pending (the pushed bytes landing elsewhere than on IF, R503). -/
def Obligations.LowestSourceFirst : Prop :=
  ∀ (s t : State) (j k : IrqSource), j.index < k.index →
    Bits.test (s.ie &&& s.ifr) j.index = true → Bits.test (s.ie &&& s.ifr) k.index = true →
    s.sp - 1 ≠ 0xFF0F → s.sp - 2 ≠ 0xFF0F →
    dispatchInterrupt s = .next t →
    ∃ w : IrqSource, w.index ≤ j.index ∧ Bits.test (s.ie &&& s.ifr) w.index = true
      ∧ t.pc = 0x0040 + BitVec.ofNat 16 (8 * w.index)
      ∧ t.ifr = Bits.set s.ifr w.index false
      ∧ Bits.test t.ifr k.index = true

/-- The third fault (R503, R512, R530; decision D29): with IME set and the pending and enabled bits all among 7..5, an
active step finds no source and faults. -/
def Obligations.NoSourceToDispatch : Prop :=
  ∀ s : State,
    let b := s.beginCycle
    s.input.reset = false → s.halted = false → s.wait = 0 → s.ime = true →
    (b.ie &&& b.ifr) ≠ 0 → (b.ie &&& b.ifr) &&& 0x1F = 0 →
    step s = .fault (.noInterruptSource (b.ie &&& b.ifr) b.pc)

/-- Entry and return fit together (R503, R459, R522, R306): an interrupt taken with its two stack bytes in storage, then
`RETI` with nothing in between, brings back PC and SP, sets IME again and has changed no register. -/
def Obligations.ReturnUndoesEntry : Prop :=
  ∀ s t : State, s.wf = true → s.storageAt (s.sp - 1) = true → s.storageAt (s.sp - 2) = true →
    dispatchInterrupt s = .next t →
    ∃ u, exec .reti t = .next u ∧ u.pc = s.pc ∧ u.sp = s.sp ∧ u.ime = true ∧ u.regs = s.regs
      ∧ u.halted = s.halted

/-- The reset line (R560; decision D13): while it is asserted no step is taken, CORE's state takes the reset values, and
reset touches no component. THE MODEL'S CHOICE (assumption 11): the bus writes and requests of the same cycle happen first,
and then the reset values win, so that IF is 0 whatever was requested in this cycle. -/
def Obligations.ResetLine : Prop :=
  ∀ s : State, s.input.reset = true →
    step s = .next { s.beginCycle with
      regs := { a := 0, f := 0, b := 0, c := 0, d := 0, e := 0, h := 0, l := 0 }
      sp := 0x0000
      pc := 0x0000
      ime := false
      ie := 0x00
      ifr := 0x00
      hram := []
      halted := false
      wait := 0 }

/-- The reset state (R561 to R566): the values are the spec's decision D13, the platform is this model's choice
(assumption 2). -/
def Obligations.ResetValues : Prop :=
  (∀ r : Reg, State.reset.regs.get r = 0x00)
  ∧ State.reset.sp = 0x0000 ∧ State.reset.pc = 0x0000 ∧ State.reset.ime = false ∧ State.reset.ie = 0x00
  ∧ State.reset.ifr = 0x00 ∧ State.reset.halted = false ∧ State.reset.wait = 0
  ∧ ∀ a : Word, State.reset.byteAt a = 0x00

/-- The invariant holds after reset. -/
def Obligations.ResetKeepsInvariant : Prop := State.reset.wf = true

/-- THE INVARIANT: whatever state satisfies it, whatever the outside world does, a step that answers a next state keeps
it: bits 3..0 of F are zero (R52), the fast RAM and every component are in canonical form, a halted CORE waits for
nothing, and no wait is longer than the dearest instruction's. -/
def Obligations.StepKeepsInvariant : Prop :=
  ∀ s t : State, s.wf = true → step s = .next t → t.wf = true

/-- A step performs at most six bus accesses (R500), and none when CORE is held in reset (R560), halted with nothing
pending (R500, R481) or busy (R502). -/
def Obligations.BoundedBusAccesses : Prop :=
  ∀ s t : State, step s = .next t →
    t.accesses.length ≤ 6
    ∧ (s.input.reset = true → t.accesses = [])
    ∧ (s.halted = true → (s.beginCycle.ie &&& s.beginCycle.ifr) = 0 → t.accesses = [])
    ∧ (s.halted = false → 0 < s.wait → t.accesses = [])

/-! ### The bus -/

/-- The bus read (R103, R105): the first component in attach order that answers wins, CORE's own component standing
between `before` and `after`; the byte when nobody answers, 0xFF, is parameter P8 (decision D12). -/
def Obligations.FirstAnswerWins : Prop :=
  ∀ (s : State) (f : Bool) (a : Word),
    (∀ (xs ys : List Component) (k : Component) (v : Byte), s.before = xs ++ k :: ys →
      (∀ x ∈ xs, x.read s.cycle f a = none) → k.read s.cycle f a = some v → s.busRead f a = v)
    ∧ (∀ v : Byte, (∀ x ∈ s.before, x.read s.cycle f a = none) → s.coreRead a = some v → s.busRead f a = v)
    ∧ (∀ (xs ys : List Component) (k : Component) (v : Byte), s.after = xs ++ k :: ys →
      (∀ x ∈ s.before, x.read s.cycle f a = none) → s.coreRead a = none →
      (∀ x ∈ xs, x.read s.cycle f a = none) → k.read s.cycle f a = some v → s.busRead f a = v)
    ∧ ((∀ x ∈ s.before, x.read s.cycle f a = none) → s.coreRead a = none →
      (∀ x ∈ s.after, x.read s.cycle f a = none) → s.busRead f a = 0xFF)

/-- The bus write (R104): every attached component, CORE among them, receives it. The last clause, that every read at
another address answers as before, is THE MODEL'S CHOICE (assumptions 5 and 6): R102 leaves a component free to react to a
write with side effects elsewhere in its range, and the components of this model do not. -/
def Obligations.EveryComponentReceivesTheWrite : Prop :=
  ∀ (s : State) (a : Word) (v : Byte),
    (s.busWrite a v).before = s.before.map (fun k => k.write a v)
    ∧ (s.busWrite a v).after = s.after.map (fun k => k.write a v)
    ∧ (∀ x : Word, (s.busWrite a v).coreRead x = (s.coreWrite a v).coreRead x)
    ∧ ∀ (f : Bool) (x : Word), x ≠ a → (s.busWrite a v).busRead f x = s.busRead f x

/-- CORE's own address decoder (R108, R547): IE at 0xFFFF, IF at 0xFF0F, the fast RAM at 0xFF80 to 0xFFFE, nothing
anywhere else; each stores the whole byte written to it and is changed by no other write. -/
def Obligations.CoreDecoder : Prop :=
  ∀ (s : State) (a : Word) (v : Byte), s.wf = true →
    s.coreRead 0xFFFF = some s.ie
    ∧ s.coreRead 0xFF0F = some s.ifr
    ∧ (0xFF80 ≤ a.toNat → a.toNat ≤ 0xFFFE → s.coreRead a = some (s.hram.read (a.toNat - 0xFF80)))
    ∧ (a ≠ 0xFFFF → a ≠ 0xFF0F → a.toNat < 0xFF80 → s.coreRead a = none ∧ s.coreWrite a v = s)
    ∧ ((s.coreRead a).isSome = true → (s.coreWrite a v).coreRead a = some v)
    ∧ ∀ x, x ≠ a → (s.coreWrite a v).coreRead x = s.coreRead x

/-- A read returns the value of the latest write (R117), and a store is seen by every later fetch as by every later load
(R119), wherever the component that claims the address first is plain storage. -/
def Obligations.StorageReadsBack : Prop :=
  ∀ (s : State) (a : Word) (v : Byte), s.wf = true → s.storageAt a = true →
    (s.busWrite a v).busRead false a = v ∧ (s.busWrite a v).busRead true a = v

/-! ### The ALU -/

/-- `add` (R203). -/
def Obligations.AddFunction : Prop :=
  ∀ (l r : Byte) (c0 : Bool),
    (aluAdd l r c0).value.toNat = (l.toNat + r.toNat + c0.toNat) % 256
    ∧ (aluAdd l r c0).flags.z = decide ((aluAdd l r c0).value = 0)
    ∧ (aluAdd l r c0).flags.n = false
    ∧ (aluAdd l r c0).flags.h = decide (l.toNat % 16 + r.toNat % 16 + c0.toNat > 0xF)
    ∧ (aluAdd l r c0).flags.c = decide (l.toNat + r.toNat + c0.toNat > 0xFF)

/-- `sub` (R204): with the borrow, the value is the difference. -/
def Obligations.SubFunction : Prop :=
  ∀ (l r : Byte) (b0 : Bool),
    (aluSub l r b0).value.toNat + r.toNat + b0.toNat = l.toNat + 256 * (aluSub l r b0).flags.c.toNat
    ∧ (aluSub l r b0).flags.z = decide ((aluSub l r b0).value = 0)
    ∧ (aluSub l r b0).flags.n = true
    ∧ (aluSub l r b0).flags.h = decide (l.toNat % 16 < r.toNat % 16 + b0.toNat)
    ∧ (aluSub l r b0).flags.c = decide (l.toNat < r.toNat + b0.toNat)

/-- `add16L` and `add16H` (R205, R206; that the carry out of the low byte is included is decision D26): the 16-bit sum,
with the half carry and carry that an 8-bit `add` gives on the low bytes, or on the high bytes with the carry out of the
low ones. -/
def Obligations.WideAddersUseOneHalf : Prop :=
  ∀ l r : Word,
    let lo := aluAdd (Bits.low l) (Bits.low r) false
    let hi := aluAdd (Bits.high l) (Bits.high r) lo.flags.c
    (aluAdd16L l r).value = l + r ∧ (aluAdd16L l r).flags = { z := false, n := false, h := lo.flags.h, c := lo.flags.c }
    ∧ (aluAdd16H l r).value = l + r
    ∧ (aluAdd16H l r).flags = { z := false, n := false, h := hi.flags.h, c := hi.flags.c }

/-- `bcdAdjust` (R207; the conditions are decision D27): the fixup table, and the flags. -/
def Obligations.DecimalAdjustFixups : Prop :=
  ∀ (v : Byte) (n h c : Bool),
    let low := h || (!n && decide (v.toNat % 16 > 9))
    let high := c || (!n && decide (v.toNat > 0x99))
    let fix : Nat := if high then (if low then 0x66 else 0x60) else (if low then 0x06 else 0x00)
    (aluBcdAdjust v n h c).value.toNat = (if n then v.toNat + 256 - fix else v.toNat + fix) % 256
    ∧ (aluBcdAdjust v n h c).flags = { z := decide ((aluBcdAdjust v n h c).value = 0), n := n, h := false, c := high }

/-- What decimal adjust is for (R207, R203, R204): after an 8-bit addition, or subtraction, of two-digit packed decimal
numbers it gives the two-digit packed decimal sum, or difference, and the decimal carry, or borrow. `p` and `q` are the
numbers, `c0` the carry or borrow in. -/
def Obligations.DecimalArithmetic : Prop :=
  ∀ (p q : Fin 100) (c0 : Bool),
    let pack (n : Nat) : Byte := BitVec.ofNat 8 (16 * (n / 10) + n % 10)
    let sum := aluAdd (pack p.val) (pack q.val) c0
    let dif := aluSub (pack p.val) (pack q.val) c0
    let addAdj := aluBcdAdjust sum.value sum.flags.n sum.flags.h sum.flags.c
    let subAdj := aluBcdAdjust dif.value dif.flags.n dif.flags.h dif.flags.c
    addAdj.value = pack ((p.val + q.val + c0.toNat) % 100)
    ∧ addAdj.flags.c = decide (100 ≤ p.val + q.val + c0.toNat)
    ∧ subAdj.value = pack ((p.val + 100 - (q.val + c0.toNat)) % 100)
    ∧ subAdj.flags.c = decide (p.val < q.val + c0.toNat)

/-- `and`, `or`, `xor` bit by bit (R208, R209, R210). -/
def Obligations.LogicFunctions : Prop :=
  ∀ l r : Byte,
    (∀ j, Bits.test (aluAnd l r).value j = (Bits.test l j && Bits.test r j))
    ∧ (aluAnd l r).flags = { z := decide ((aluAnd l r).value = 0), n := false, h := true, c := false }
    ∧ (∀ j, Bits.test (aluOr l r).value j = (Bits.test l j || Bits.test r j))
    ∧ (aluOr l r).flags = { z := decide ((aluOr l r).value = 0), n := false, h := false, c := false }
    ∧ (∀ j, Bits.test (aluXor l r).value j = Bool.xor (Bits.test l j) (Bits.test r j))
    ∧ (aluXor l r).flags = { z := decide ((aluXor l r).value = 0), n := false, h := false, c := false }

/-- The shifts, rotates, swap and bit test bit by bit (R211 to R217): where each bit of the value comes from, the carry
the bit that left, Z of the value, N and H as each rule says; and the source's invariant of R214. -/
def Obligations.ShiftFunctions : Prop :=
  ∀ (v : Byte) (cin : Bool) (j : Nat), j < 8 →
    let moved (x : ValueFlags 8) (bit c : Bool) : Prop :=
      Bits.test x.value j = bit ∧ x.flags = { z := decide (x.value = 0), n := false, h := false, c := c }
    moved (aluShiftLeft v) (decide (j ≠ 0) && Bits.test v (j - 1)) (Bits.test v 7)
    ∧ moved (aluShiftRightArithmetic v) (Bits.test v (if j = 7 then 7 else j + 1)) (Bits.test v 0)
    ∧ moved (aluShiftRightLogical v) (Bits.test v (j + 1)) (Bits.test v 0)
    ∧ moved (aluRotate .left v) (Bits.test v ((j + 7) % 8)) (Bits.test v 7)
    ∧ moved (aluRotate .right v) (Bits.test v ((j + 1) % 8)) (Bits.test v 0)
    ∧ moved (aluRotateThroughCarry .left v cin) (if j = 0 then cin else Bits.test v (j - 1)) (Bits.test v 7)
    ∧ moved (aluRotateThroughCarry .right v cin) (if j = 7 then cin else Bits.test v (j + 1)) (Bits.test v 0)
    ∧ moved (aluSwap v) (Bits.test v ((j + 4) % 8)) false
    ∧ (aluTestBit v (BitVec.ofNat 3 j)).flags.z = !Bits.test v j
    ∧ (aluTestBit v (BitVec.ofNat 3 j)).flags.n = false
    ∧ (aluTestBit v (BitVec.ofNat 3 j)).flags.h = true
    ∧ (aluRotate .left (aluRotate .right v).value).value = v

/-- The source's invariant of the rotates (R214), and the same of the nine-bit rotate through carry (R215) and of the
nibble swap (R216). -/
def Obligations.RotatesAreInverse : Prop :=
  ∀ (v : Byte) (cin : Bool),
    (aluRotate .left (aluRotate .right v).value).value = v
    ∧ (aluRotate .right (aluRotate .left v).value).value = v
    ∧ (let x := aluRotateThroughCarry .right v cin
       let y := aluRotateThroughCarry .left x.value x.flags.c
       y.value = v ∧ y.flags.c = cin)
    ∧ (aluSwap (aluSwap v).value).value = v

/-- The flag-combination helper (R202): each flag as its selector says, 0, 1, as before, or the computed bit; bits 3..0
of F zero; no other register and nothing else of the state. -/
def Obligations.FlagCombination : Prop :=
  ∀ (s : State) (z n h c : FlagSel),
    let chosen (sel : FlagSel) (bit : Nat) : Bool :=
      match sel with
      | .zero => false
      | .one => true
      | .keep => Bits.test s.regs.f bit
      | .to b => b
    s.setFlags z n h c = { s with regs := { s.regs with f := (s.setFlags z n h c).regs.f } }
    ∧ Bits.test (s.setFlags z n h c).regs.f 7 = chosen z 7
    ∧ Bits.test (s.setFlags z n h c).regs.f 6 = chosen n 6
    ∧ Bits.test (s.setFlags z n h c).regs.f 5 = chosen h 5
    ∧ Bits.test (s.setFlags z n h c).regs.f 4 = chosen c 4
    ∧ (s.setFlags z n h c).regs.f &&& 0x0F = 0

/-! ### The instructions, family by family. In each, `F.C` before the instruction is `Bits.test s.regs.f 4`. -/

/-- `LD r8,r8'` and `LD r8,n8` (R250, R251). -/
def Obligations.LoadRegister : Prop :=
  ∀ (i : Instr) (s : State),
    match i.form with
    | .ldR8R8 d r =>
      encode i = [opXYZ 1 d.code r.code]
      ∧ runsTo i s { s with regs := s.regs.set (regOf d) (s.regs.get (regOf r)), pc := s.pc + 1, wait := 0 } []
    | .ldR8N8 d n =>
      encode i = [opXYZ 0 d.code 6, n]
      ∧ runsTo i s { s with regs := s.regs.set (regOf d) n, pc := s.pc + 2, wait := 1 } []
    | _ => True

/-- The byte loads from memory (R252, R255, R256, R259, R261, R263, R265, R266): one read at the effective address of
R269, then the destination; `[HL+]` and `[HL-]` move HL after the read. -/
def Obligations.LoadByteFromMemory : Prop :=
  ∀ (i : Instr) (s : State),
    let hl := s.regs.pair .HL
    let loaded (d : Reg) (a : Word) (length : Word) (busy : Nat) : State :=
      { s with
        regs := s.regs.set d (s.byteAt a)
        pc := s.pc + length
        wait := busy
        accesses := s.accesses ++ [.read a (s.byteAt a)] }
    match i.form with
    | .ldR8HL d => encode i = [opXYZ 1 d.code 6] ∧ runsTo i s (loaded (regOf d) hl 1 1) []
    | .ldABC => encode i = [0x0A] ∧ runsTo i s (loaded .A (s.regs.pair .BC) 1 1) []
    | .ldADE => encode i = [0x1A] ∧ runsTo i s (loaded .A (s.regs.pair .DE) 1 1) []
    | .ldAN16 w => encode i = [0xFA, Bits.low w, Bits.high w] ∧ runsTo i s (loaded .A w 3 3) []
    | .ldhAN8 n => encode i = [0xF0, n] ∧ runsTo i s (loaded .A (0xFF00 + n.setWidth 16) 2 2) []
    | .ldhAC => encode i = [0xF2] ∧ runsTo i s (loaded .A (0xFF00 + s.regs.c.setWidth 16) 1 1) []
    | .ldAHLInc =>
      encode i = [0x2A]
      ∧ runsTo i s { loaded .A hl 1 1 with regs := (s.regs.set .A (s.byteAt hl)).setPair .HL (hl + 1) } []
    | .ldAHLDec =>
      encode i = [0x3A]
      ∧ runsTo i s { loaded .A hl 1 1 with regs := (s.regs.set .A (s.byteAt hl)).setPair .HL (hl - 1) } []
    | _ => True

/-- The byte stores (R253, R254, R257, R258, R260, R262, R264, R267, R268): one bus write at the effective address, and
every byte outside that address reads as before; `[HL+]` and `[HL-]` move HL after the write. -/
def Obligations.StoreByteToMemory : Prop :=
  ∀ (i : Instr) (s : State),
    let hl := s.regs.pair .HL
    let stored (a : Word) (v : Byte) (length : Word) (busy : Nat) : State :=
      { s.busWrite a v with
        pc := s.pc + length
        wait := busy
        accesses := s.accesses ++ [.write a v] }
    match i.form with
    | .ldHLR8 r => encode i = [opXYZ 1 6 r.code] ∧ runsTo i s (stored hl (s.regs.get (regOf r)) 1 1) [hl]
    | .ldHLN8 n => encode i = [0x36, n] ∧ runsTo i s (stored hl n 2 2) [hl]
    | .ldBCA => encode i = [0x02] ∧ runsTo i s (stored (s.regs.pair .BC) s.regs.a 1 1) [s.regs.pair .BC]
    | .ldDEA => encode i = [0x12] ∧ runsTo i s (stored (s.regs.pair .DE) s.regs.a 1 1) [s.regs.pair .DE]
    | .ldN16A w => encode i = [0xEA, Bits.low w, Bits.high w] ∧ runsTo i s (stored w s.regs.a 3 3) [w]
    | .ldhN8A n =>
      encode i = [0xE0, n] ∧ runsTo i s (stored (0xFF00 + n.setWidth 16) s.regs.a 2 2) [0xFF00 + n.setWidth 16]
    | .ldhCA =>
      encode i = [0xE2]
      ∧ runsTo i s (stored (0xFF00 + s.regs.c.setWidth 16) s.regs.a 1 1) [0xFF00 + s.regs.c.setWidth 16]
    | .ldHLIncA =>
      encode i = [0x22] ∧ runsTo i s { stored hl s.regs.a 1 1 with regs := s.regs.setPair .HL (hl + 1) } [hl]
    | .ldHLDecA =>
      encode i = [0x32] ∧ runsTo i s { stored hl s.regs.a 1 1 with regs := s.regs.setPair .HL (hl - 1) } [hl]
    | _ => True

/-- `LD r16,n16` and `LD SP,HL` (R300, R302): a pair takes the high byte in its first register. -/
def Obligations.LoadPair : Prop :=
  ∀ (i : Instr) (s : State),
    match i.form with
    | .ldR16N16 p w =>
      encode i = [opXYZ 0 (fieldPQ p.code 0) 1, Bits.low w, Bits.high w]
      ∧ runsTo i s
          (match p with
            | .BC => { s with regs := { s.regs with b := Bits.high w, c := Bits.low w }, pc := s.pc + 3, wait := 2 }
            | .DE => { s with regs := { s.regs with d := Bits.high w, e := Bits.low w }, pc := s.pc + 3, wait := 2 }
            | .HL => { s with regs := { s.regs with h := Bits.high w, l := Bits.low w }, pc := s.pc + 3, wait := 2 }
            | .SP => { s with sp := w, pc := s.pc + 3, wait := 2 }) []
    | .ldSPHL =>
      encode i = [0xF9] ∧ runsTo i s { s with sp := s.regs.h ++ s.regs.l, pc := s.pc + 1, wait := 1 } []
    | _ => True

/-- `LD [n16],SP` and `PUSH r16` (R301, R303, R305): which byte goes where and which is written first, SP two lower
after a push, and no other byte changed. -/
def Obligations.StorePair : Prop :=
  ∀ (i : Instr) (s : State),
    match i.form with
    | .ldN16SP w =>
      encode i = [0x08, Bits.low w, Bits.high w]
      ∧ runsTo i s { (s.busWrite w (Bits.low s.sp)).busWrite (w + 1) (Bits.high s.sp) with
          pc := s.pc + 3
          wait := 4
          accesses := s.accesses ++ [.write w (Bits.low s.sp), .write (w + 1) (Bits.high s.sp)] } [w, w + 1]
    | .push q =>
      let v := s.regs.pair q
      encode i = [opXYZ 3 (fieldPQ q.code 0) 5]
      ∧ runsTo i s { (s.busWrite (s.sp - 1) (Bits.high v)).busWrite (s.sp - 2) (Bits.low v) with
          sp := s.sp - 2
          pc := s.pc + 1
          wait := 3
          accesses := s.accesses ++ [.write (s.sp - 1) (Bits.high v), .write (s.sp - 2) (Bits.low v)] }
          [s.sp - 1, s.sp - 2]
    | _ => True

/-- `POP r16` (R304, R306, R54): the low byte is read first, SP ends two higher, and popping into AF clears bits 3..0 of
F. -/
def Obligations.PopPair : Prop :=
  ∀ (i : Instr) (s : State),
    match i.form with
    | .pop q =>
      let lo := s.byteAt s.sp
      let hi := s.byteAt (s.sp + 1)
      encode i = [opXYZ 3 (fieldPQ q.code 0) 1]
      ∧ runsTo i s { s with
          regs := (match q with
            | .AF => { s.regs with a := hi, f := lo &&& 0xF0 }
            | .BC => { s.regs with b := hi, c := lo }
            | .DE => { s.regs with d := hi, e := lo }
            | .HL => { s.regs with h := hi, l := lo })
          sp := s.sp + 2
          pc := s.pc + 1
          wait := 2
          accesses := s.accesses ++ [.read s.sp lo, .read (s.sp + 1) hi] } []
    | _ => True

/-- `op A,r8` (R330, R333, R336, R339, R342, R345, R348, R351): A takes the value, but for `CP`, and F all four flags, of
the ALU function of the operation (R218); the carry is the one before the instruction. -/
def Obligations.AccumulatorRegister : Prop :=
  ∀ (i : Instr) (s : State),
    match i.form with
    | .aluR8 op r =>
      let y := s.regs.get (regOf r)
      let carry := Bits.test s.regs.f 4
      let x := match op with
        | .ADD => aluAdd s.regs.a y false
        | .ADC => aluAdd s.regs.a y carry
        | .SUB => aluSub s.regs.a y false
        | .SBC => aluSub s.regs.a y carry
        | .AND => aluAnd s.regs.a y
        | .XOR => aluXor s.regs.a y
        | .OR => aluOr s.regs.a y
        | .CP => aluSub s.regs.a y false
      encode i = [opXYZ 2 op.code r.code]
      ∧ runsTo i s { s with
          regs := { s.regs with a := if op = .CP then s.regs.a else x.value, f := x.flags.toByte }
          pc := s.pc + 1
          wait := 0 } []
    | _ => True

/-- `op A,[HL]` (R331, R334, R337, R340, R343, R346, R349, R352): the same with the byte read at HL. -/
def Obligations.AccumulatorMemory : Prop :=
  ∀ (i : Instr) (s : State),
    match i.form with
    | .aluHL op =>
      let hl := s.regs.pair .HL
      let y := s.byteAt hl
      let carry := Bits.test s.regs.f 4
      let x := match op with
        | .ADD => aluAdd s.regs.a y false
        | .ADC => aluAdd s.regs.a y carry
        | .SUB => aluSub s.regs.a y false
        | .SBC => aluSub s.regs.a y carry
        | .AND => aluAnd s.regs.a y
        | .XOR => aluXor s.regs.a y
        | .OR => aluOr s.regs.a y
        | .CP => aluSub s.regs.a y false
      encode i = [opXYZ 2 op.code 6]
      ∧ runsTo i s { s with
          regs := { s.regs with a := if op = .CP then s.regs.a else x.value, f := x.flags.toByte }
          pc := s.pc + 1
          wait := 1
          accesses := s.accesses ++ [.read hl y] } []
    | _ => True

/-- `op A,n8` (R332, R335, R338, R341, R344, R347, R350, R353): the same with the immediate byte. -/
def Obligations.AccumulatorImmediate : Prop :=
  ∀ (i : Instr) (s : State),
    match i.form with
    | .aluN8 op n =>
      let carry := Bits.test s.regs.f 4
      let x := match op with
        | .ADD => aluAdd s.regs.a n false
        | .ADC => aluAdd s.regs.a n carry
        | .SUB => aluSub s.regs.a n false
        | .SBC => aluSub s.regs.a n carry
        | .AND => aluAnd s.regs.a n
        | .XOR => aluXor s.regs.a n
        | .OR => aluOr s.regs.a n
        | .CP => aluSub s.regs.a n false
      encode i = [opXYZ 3 op.code 6, n]
      ∧ runsTo i s { s with
          regs := { s.regs with a := if op = .CP then s.regs.a else x.value, f := x.flags.toByte }
          pc := s.pc + 2
          wait := 1 } []
    | _ => True

/-- `INC` and `DEC` of a register or of the byte at HL (R354 to R357): Z and H from `add(x, 1, 0)` or `sub(x, 1, 0)`, N
forced, C kept; the memory forms read and then write the one byte at HL. -/
def Obligations.IncrementDecrementByte : Prop :=
  ∀ (i : Instr) (s : State),
    let hl := s.regs.pair .HL
    let y := s.byteAt hl
    let carry := Bits.test s.regs.f 4
    let newF (x : ValueFlags 8) (n : Bool) : Byte :=
      Flags.toByte { z := x.flags.z, n := n, h := x.flags.h, c := carry }
    let inRegister (d : Reg8) (x : ValueFlags 8) (n : Bool) : State :=
      { s with regs := { s.regs.set (regOf d) x.value with f := newF x n }, pc := s.pc + 1, wait := 0 }
    let inMemory (x : ValueFlags 8) (n : Bool) : State :=
      { s.busWrite hl x.value with
        regs := { s.regs with f := newF x n }
        pc := s.pc + 1
        wait := 2
        accesses := s.accesses ++ [.read hl y, .write hl x.value] }
    match i.form with
    | .incR8 d =>
      encode i = [opXYZ 0 d.code 4] ∧ runsTo i s (inRegister d (aluAdd (s.regs.get (regOf d)) 1 false) false) []
    | .decR8 d =>
      encode i = [opXYZ 0 d.code 5] ∧ runsTo i s (inRegister d (aluSub (s.regs.get (regOf d)) 1 false) true) []
    | .incHL => encode i = [0x34] ∧ runsTo i s (inMemory (aluAdd y 1 false) false) [hl]
    | .decHL => encode i = [0x35] ∧ runsTo i s (inMemory (aluSub y 1 false) true) [hl]
    | _ => True

/-- `DAA`, `CPL`, `SCF`, `CCF` (R358 to R361). -/
def Obligations.AccumulatorAdjustments : Prop :=
  ∀ (i : Instr) (s : State),
    let f (bit : Nat) : Bool := Bits.test s.regs.f bit
    let adjusted (a : Byte) (flags : Flags) : State :=
      { s with regs := { s.regs with a := a, f := flags.toByte }, pc := s.pc + 1, wait := 0 }
    match i.form with
    | .daa =>
      let x := aluBcdAdjust s.regs.a (f 6) (f 5) (f 4)
      encode i = [0x27]
      ∧ runsTo i s (adjusted x.value { z := x.flags.z, n := f 6, h := false, c := x.flags.c }) []
    | .cpl =>
      encode i = [0x2F] ∧ runsTo i s (adjusted (~~~s.regs.a) { z := f 7, n := true, h := true, c := f 4 }) []
    | .scf => encode i = [0x37] ∧ runsTo i s (adjusted s.regs.a { z := f 7, n := false, h := false, c := true }) []
    | .ccf => encode i = [0x3F] ∧ runsTo i s (adjusted s.regs.a { z := f 7, n := false, h := false, c := !f 4 }) []
    | _ => True

/-- The 16-bit arithmetic (R380 to R384): `ADD HL,r16` keeps Z, `INC r16` and `DEC r16` change no flag, and the two forms
with a signed byte clear Z and N and take H and C from the low byte. -/
def Obligations.WideArithmetic : Prop :=
  ∀ (i : Instr) (s : State),
    let operand (p : R16) : Word :=
      match p with
      | .BC => s.regs.b ++ s.regs.c
      | .DE => s.regs.d ++ s.regs.e
      | .HL => s.regs.h ++ s.regs.l
      | .SP => s.sp
    let written (p : R16) (v : Word) : State :=
      match p with
      | .BC => { s with regs := { s.regs with b := Bits.high v, c := Bits.low v }, pc := s.pc + 1, wait := 1 }
      | .DE => { s with regs := { s.regs with d := Bits.high v, e := Bits.low v }, pc := s.pc + 1, wait := 1 }
      | .HL => { s with regs := { s.regs with h := Bits.high v, l := Bits.low v }, pc := s.pc + 1, wait := 1 }
      | .SP => { s with sp := v, pc := s.pc + 1, wait := 1 }
    match i.form with
    | .addHLR16 p =>
      let x := aluAdd16H (operand .HL) (operand p)
      encode i = [opXYZ 0 (fieldPQ p.code 1) 1]
      ∧ runsTo i s { s with
          regs := { s.regs with
            h := Bits.high x.value
            l := Bits.low x.value
            f := Flags.toByte { z := Bits.test s.regs.f 7, n := false, h := x.flags.h, c := x.flags.c } }
          pc := s.pc + 1
          wait := 1 } []
    | .incR16 p => encode i = [opXYZ 0 (fieldPQ p.code 0) 3] ∧ runsTo i s (written p (operand p + 1)) []
    | .decR16 p => encode i = [opXYZ 0 (fieldPQ p.code 1) 3] ∧ runsTo i s (written p (operand p - 1)) []
    | .addSPE8 e =>
      let x := aluAdd16L s.sp (e.signExtend 16)
      encode i = [0xE8, e]
      ∧ runsTo i s { s with
          sp := x.value
          regs := { s.regs with f := Flags.toByte { z := false, n := false, h := x.flags.h, c := x.flags.c } }
          pc := s.pc + 2
          wait := 3 } []
    | .ldHLSPE8 e =>
      let x := aluAdd16L s.sp (e.signExtend 16)
      encode i = [0xF8, e]
      ∧ runsTo i s { s with
          regs := { s.regs with
            h := Bits.high x.value
            l := Bits.low x.value
            f := Flags.toByte { z := false, n := false, h := x.flags.h, c := x.flags.c } }
          pc := s.pc + 2
          wait := 2 } []
    | _ => True

/-- The rotates of A, which clear Z (R400 to R403), and the rotates and shifts of a register, which compute it (R404,
R406, R408, R410, R412, R414, R416, R418): the carry out is the function's. -/
def Obligations.RotateShiftRegister : Prop :=
  ∀ (i : Instr) (s : State),
    let carry := Bits.test s.regs.f 4
    match i.form with
    | .accRot op =>
      let x := match op with
        | .RLCA => aluRotate .left s.regs.a
        | .RRCA => aluRotate .right s.regs.a
        | .RLA => aluRotateThroughCarry .left s.regs.a carry
        | .RRA => aluRotateThroughCarry .right s.regs.a carry
      encode i = [opXYZ 0 op.code 7]
      ∧ runsTo i s { s with
          regs := { s.regs with
            a := x.value
            f := Flags.toByte { z := false, n := false, h := false, c := x.flags.c } }
          pc := s.pc + 1
          wait := 0 } []
    | .shiftR8 op r =>
      let y := s.regs.get (regOf r)
      let x := match op with
        | .RLC => aluRotate .left y
        | .RRC => aluRotate .right y
        | .RL => aluRotateThroughCarry .left y carry
        | .RR => aluRotateThroughCarry .right y carry
        | .SLA => aluShiftLeft y
        | .SRA => aluShiftRightArithmetic y
        | .SWAP => aluSwap y
        | .SRL => aluShiftRightLogical y
      encode i = [0xCB, opXYZ 0 op.code r.code]
      ∧ runsTo i s { s with
          regs := { s.regs.set (regOf r) x.value with
            f := Flags.toByte { z := x.flags.z, n := false, h := false, c := x.flags.c } }
          pc := s.pc + 2
          wait := 1 } []
    | _ => True

/-- The rotates and shifts of the byte at HL (R405, R407, R409, R411, R413, R415, R417, R419): one read, then one write,
of that byte and no other. -/
def Obligations.RotateShiftMemory : Prop :=
  ∀ (i : Instr) (s : State),
    let carry := Bits.test s.regs.f 4
    let hl := s.regs.pair .HL
    let y := s.byteAt hl
    match i.form with
    | .shiftHL op =>
      let x := match op with
        | .RLC => aluRotate .left y
        | .RRC => aluRotate .right y
        | .RL => aluRotateThroughCarry .left y carry
        | .RR => aluRotateThroughCarry .right y carry
        | .SLA => aluShiftLeft y
        | .SRA => aluShiftRightArithmetic y
        | .SWAP => aluSwap y
        | .SRL => aluShiftRightLogical y
      encode i = [0xCB, opXYZ 0 op.code 6]
      ∧ runsTo i s { s.busWrite hl x.value with
          regs := { s.regs with f := Flags.toByte { z := x.flags.z, n := false, h := false, c := x.flags.c } }
          pc := s.pc + 2
          wait := 3
          accesses := s.accesses ++ [.read hl y, .write hl x.value] } [hl]
    | _ => True

/-- `BIT u3` (R420, R421): Z is the complement of the bit, N = 0, H = 1, C kept, and nothing is written. -/
def Obligations.BitTest : Prop :=
  ∀ (i : Instr) (s : State),
    let hl := s.regs.pair .HL
    let newF (y : Byte) (u : BitVec 3) : Byte :=
      Flags.toByte { z := !Bits.test y u.toNat, n := false, h := true, c := Bits.test s.regs.f 4 }
    match i.form with
    | .bitR8 u r =>
      encode i = [0xCB, opXYZ 1 u r.code]
      ∧ runsTo i s { s with
          regs := { s.regs with f := newF (s.regs.get (regOf r)) u }, pc := s.pc + 2, wait := 1 } []
    | .bitHL u =>
      encode i = [0xCB, opXYZ 1 u 6]
      ∧ runsTo i s { s with
          regs := { s.regs with f := newF (s.byteAt hl) u }
          pc := s.pc + 2
          wait := 2
          accesses := s.accesses ++ [.read hl (s.byteAt hl)] } []
    | _ => True

/-- `RES u3` and `SET u3` (R422 to R425): the one bit becomes 0 or 1 and every other bit stays; no flag changes; the memory
forms write even when the bit was right already. -/
def Obligations.BitResetAndSet : Prop :=
  ∀ (i : Instr) (s : State),
    let hl := s.regs.pair .HL
    let y := s.byteAt hl
    let inRegister (u : BitVec 3) (r : Reg8) (b : Bool) : Prop :=
      ∃ v : Byte,
        (∀ j : Nat, j < 8 → Bits.test v j = if j = u.toNat then b else Bits.test (s.regs.get (regOf r)) j)
        ∧ runsTo i s { s with regs := s.regs.set (regOf r) v, pc := s.pc + 2, wait := 1 } []
    let inMemory (u : BitVec 3) (b : Bool) : Prop :=
      ∃ v : Byte,
        (∀ j : Nat, j < 8 → Bits.test v j = if j = u.toNat then b else Bits.test y j)
        ∧ runsTo i s { s.busWrite hl v with
            pc := s.pc + 2
            wait := 3
            accesses := s.accesses ++ [.read hl y, .write hl v] } [hl]
    match i.form with
    | .resR8 u r => encode i = [0xCB, opXYZ 2 u r.code] ∧ inRegister u r false
    | .setR8 u r => encode i = [0xCB, opXYZ 3 u r.code] ∧ inRegister u r true
    | .resHL u => encode i = [0xCB, opXYZ 2 u 6] ∧ inMemory u false
    | .setHL u => encode i = [0xCB, opXYZ 3 u 6] ∧ inMemory u true
    | _ => True

/-- The jumps (R450 to R454, R156): where PC goes when the condition holds and when it does not, the cost of each, and
nothing else. -/
def Obligations.Jumps : Prop :=
  ∀ (i : Instr) (s : State),
    let holds (c : Cond) : Bool :=
      match c with
      | .NZ => !Bits.test s.regs.f 7
      | .Z => Bits.test s.regs.f 7
      | .NC => !Bits.test s.regs.f 4
      | .C => Bits.test s.regs.f 4
    match i.form with
    | .jpN16 w => encode i = [0xC3, Bits.low w, Bits.high w] ∧ runsTo i s { s with pc := w, wait := 3 } []
    | .jpCC c w =>
      encode i = [opXYZ 3 (fieldCC 0 c) 2, Bits.low w, Bits.high w]
      ∧ (holds c = true → runsTo i s { s with pc := w, wait := 3 } [])
      ∧ (holds c = false → runsTo i s { s with pc := s.pc + 3, wait := 2 } [])
    | .jpHL => encode i = [0xE9] ∧ runsTo i s { s with pc := s.regs.h ++ s.regs.l, wait := 0 } []
    | .jrE8 e => encode i = [0x18, e] ∧ runsTo i s { s with pc := s.pc + 2 + e.signExtend 16, wait := 2 } []
    | .jrCC c e =>
      encode i = [opXYZ 0 (fieldCC 1 c) 0, e]
      ∧ (holds c = true → runsTo i s { s with pc := s.pc + 2 + e.signExtend 16, wait := 2 } [])
      ∧ (holds c = false → runsTo i s { s with pc := s.pc + 2, wait := 1 } [])
    | _ => True

/-- The calls and restarts (R455, R456, R460, R305): the address after the instruction is pushed, the high byte first,
then PC goes to the target; an untaken call touches neither SP nor memory. -/
def Obligations.CallsAndRestarts : Prop :=
  ∀ (i : Instr) (s : State),
    let called (target after : Word) (busy : Nat) : Prop :=
      runsTo i s { (s.busWrite (s.sp - 1) (Bits.high after)).busWrite (s.sp - 2) (Bits.low after) with
        sp := s.sp - 2
        pc := target
        wait := busy
        accesses := s.accesses ++ [.write (s.sp - 1) (Bits.high after), .write (s.sp - 2) (Bits.low after)] }
        [s.sp - 1, s.sp - 2]
    match i.form with
    | .callN16 w => encode i = [0xCD, Bits.low w, Bits.high w] ∧ called w (s.pc + 3) 5
    | .callCC c w =>
      encode i = [opXYZ 3 (fieldCC 0 c) 4, Bits.low w, Bits.high w]
      ∧ (s.cond c = true → called w (s.pc + 3) 5)
      ∧ (s.cond c = false → runsTo i s { s with pc := s.pc + 3, wait := 2 } [])
    | .rst v => encode i = [opXYZ 3 v 7] ∧ called (BitVec.ofNat 16 (8 * v.toNat)) (s.pc + 1) 3
    | _ => True

/-- The returns (R457, R458, R459, R306): PC is the word popped, its low byte read first, and `RETI` sets IME too; an
untaken return reads nothing. -/
def Obligations.Returns : Prop :=
  ∀ (i : Instr) (s : State),
    let lo := s.byteAt s.sp
    let hi := s.byteAt (s.sp + 1)
    let popped (busy : Nat) : State :=
      { s with
        sp := s.sp + 2
        pc := hi ++ lo
        wait := busy
        accesses := s.accesses ++ [.read s.sp lo, .read (s.sp + 1) hi] }
    match i.form with
    | .ret => encode i = [0xC9] ∧ runsTo i s (popped 3) []
    | .retCC c =>
      encode i = [opXYZ 3 (fieldCC 0 c) 0]
      ∧ (s.cond c = true → runsTo i s (popped 4) [])
      ∧ (s.cond c = false → runsTo i s { s with pc := s.pc + 1, wait := 1 } [])
    | .reti => encode i = [0xD9] ∧ runsTo i s { popped 3 with ime := true } []
    | _ => True

/-- `NOP`, `HALT`, `DI`, `EI` (R480, R481, R483, R484; that `EI` is immediate is parameter P13, decision D16). -/
def Obligations.SystemInstructions : Prop :=
  ∀ s : State,
    encode .nop = [0x00] ∧ runsTo .nop s { s with pc := s.pc + 1, wait := 0 } []
    ∧ encode .halt = [0x76] ∧ runsTo .halt s { s with pc := s.pc + 1, halted := true, wait := 0 } []
    ∧ encode .di = [0xF3] ∧ runsTo .di s { s with pc := s.pc + 1, ime := false, wait := 0 } []
    ∧ encode .ei = [0xFB] ∧ runsTo .ei s { s with pc := s.pc + 1, ime := true, wait := 0 } []

/-- The twelve stops (R482, R485, R530): `STOP` and the eleven encodings without a descriptor end in the fault the spec
names, with the opcode and PC. -/
def Obligations.StopAndIllegalFault : Prop :=
  ∀ (i : Instr) (s : State),
    match i.form with
    | .stop => encode i = [0x10] ∧ exec i s = .fault (.unspecifiedInstruction 0x10 s.pc)
    | .illegal op => encode i = [op] ∧ op ∈ undefinedOpcodes ∧ exec i s = .fault (.illegalOpcode op s.pc)
    | _ => True

/-! ### Rules of the whole machine -/

/-- No instruction traps (R520, R530): every instruction but `STOP` and the undefined encodings completes, in every
state; and no step is ever refused. -/
def Obligations.EveryOtherInstructionCompletes : Prop :=
  (∀ (i : Instr) (s : State), i.wellFormed = true → i ≠ .stop → ∃ t, exec i s = .next t)
  ∧ ∀ (s : State) (r : Refusal), step s ≠ .refused r

/-- Who writes IME (R60): `DI` clears it, `EI` and `RETI` set it, and no other instruction changes it. -/
def Obligations.WhoWritesIme : Prop :=
  ∀ (i : Instr) (s t : State), exec i s = .next t →
    t.ime = if i = .di then false else if i = .ei ∨ i = .reti then true else s.ime

/-- Which instructions touch F (R218, R57): a form that is not in the table of R218 leaves F as it was. -/
def Obligations.OnlyListedFormsTouchFlags : Prop :=
  ∀ (i : Instr) (s t : State), exec i s = .next t →
    match i.form with
    | .aluR8 _ _ | .aluHL _ | .aluN8 _ _ | .incR8 _ | .incHL | .decR8 _ | .decHL | .addHLR16 _ | .addSPE8 _
    | .ldHLSPE8 _ | .daa | .cpl | .scf | .ccf | .accRot _ | .shiftR8 _ _ | .shiftHL _ | .bitR8 _ _ | .bitHL _
    | .pop .AF => True
    | _ => t.regs.f = s.regs.f

/-- Who writes IE and IF (R61, R62): no instruction changes IE or IF but by a bus write at its address. -/
def Obligations.InterruptRegistersChangeByBusWrites : Prop :=
  ∀ (i : Instr) (s t : State), exec i s = .next t →
    (t.ie ≠ s.ie → ∃ v, BusAccess.write 0xFFFF v ∈ t.accesses.drop s.accesses.length)
    ∧ (t.ifr ≠ s.ifr → ∃ v, BusAccess.write 0xFF0F v ∈ t.accesses.drop s.accesses.length)

/-- Cost and length of every instruction that completes (R504, R158, R580): a step of cost `k` leaves `wait = k - 1`, the
cost being that of the table with the extra when the branch condition held, and PC is the address after the instruction
unless the form redirects control; `HALT` charges nothing (conflict C5). -/
def Obligations.CostAndLength : Prop :=
  ∀ (i : Instr) (s t : State), exec i s = .next t →
    (i = .halt → t.wait = 0)
    ∧ (i ≠ .halt →
        t.wait + 1 = (costTable i.form).1 + if conditionHolds i.form s then (costTable i.form).2 else 0)
    ∧ match i.form with
      | .jpN16 _ | .jpHL | .jrE8 _ | .callN16 _ | .ret | .reti | .rst _ => True
      | .jpCC c _ | .jrCC c _ | .callCC c _ | .retCC c =>
        s.cond c = false → t.pc = s.pc + BitVec.ofNat 16 i.length
      | _ => t.pc = s.pc + BitVec.ofNat 16 i.length

/-- The source's end-to-end scenario (R300, R303, R304, R306): load SP with an immediate, push a pair, pop another; the
value goes through memory exactly and SP is back, wherever the two bytes are storage. -/
def Obligations.PushThenPopCopies : Prop :=
  ∀ (i j k : Instr) (w : Word) (p q : Pair) (s : State),
    i.form = .ldR16N16 .SP w → j.form = .push p → k.form = .pop q → q ≠ .AF →
    s.wf = true → s.storageAt (w - 1) = true → s.storageAt (w - 2) = true →
    ∃ t u v, exec i s = .next t ∧ exec j t = .next u ∧ exec k u = .next v
      ∧ v.regs.pair q = s.regs.pair p ∧ v.sp = w
end

