-- ==== Sys2Proof/Laws/Memory.lean ====
section
/-! SUPPORT. Byte storage: a read after a write, and the canonical form, which every write keeps and which makes equal
memories equal lists. -/

namespace Sys2Proof.Machine

namespace Memory

theorem read_cons (a : Nat) (v : Byte) (rest : Memory) (hrest : rest.read a = Config.unwrittenByte) (x : Nat) :
    (Memory.cons a v rest).read x = if x = a then v else rest.read x := by
  unfold Memory.cons
  split
  · next hv =>
    split
    · next hx => rw [hx, hrest, hv]
    · rfl
  · show (if a = x then v else rest.read x) = _
    by_cases hx : x = a
    · simp [hx]
    · simp [hx, Ne.symm hx]

/-- Keys below the lower bound of a canonical form are not listed. -/
theorem read_of_lt {m : Memory} {lo hi a : Nat} (h : m.wfIn lo hi = true) (ha : a < lo) :
    m.read a = Config.unwrittenByte := by
  induction m generalizing lo with
  | nil => rfl
  | cons e rest ih =>
    obtain ⟨k, v⟩ := e
    simp only [wfIn, Bool.and_eq_true, decide_eq_true_eq] at h
    obtain ⟨⟨⟨h1, _⟩, _⟩, h4⟩ := h
    have hk : k ≠ a := by omega
    simp only [Memory.read, if_neg hk]
    exact ih h4 (by omega)

theorem wfIn_mono {m : Memory} {lo lo' hi : Nat} (h : m.wfIn lo hi = true) (hlo : lo' ≤ lo) : m.wfIn lo' hi = true := by
  cases m with
  | nil => rfl
  | cons e rest =>
    obtain ⟨k, v⟩ := e
    simp only [wfIn, Bool.and_eq_true, decide_eq_true_eq] at h ⊢
    exact ⟨⟨⟨by omega, h.1.1.2⟩, h.1.2⟩, h.2⟩

theorem wfIn_cons {rest : Memory} {lo hi a : Nat} {v : Byte} (h : rest.wfIn (a + 1) hi = true) (h1 : lo ≤ a)
    (h2 : a ≤ hi) : (Memory.cons a v rest).wfIn lo hi = true := by
  unfold Memory.cons
  split
  · exact wfIn_mono h (by omega)
  · next hv =>
    simp only [wfIn, Bool.and_eq_true, decide_eq_true_eq]
    exact ⟨⟨⟨h1, h2⟩, hv⟩, h⟩

/-- A write keeps the canonical form. -/
theorem wfIn_write {m : Memory} {lo hi a : Nat} (h : m.wfIn lo hi = true) (h1 : lo ≤ a) (h2 : a ≤ hi) (v : Byte) :
    (m.write a v).wfIn lo hi = true := by
  induction m generalizing lo with
  | nil => exact wfIn_cons (rest := []) rfl h1 h2
  | cons e rest ih =>
    obtain ⟨k, x⟩ := e
    have h' := h
    simp only [wfIn, Bool.and_eq_true, decide_eq_true_eq] at h'
    obtain ⟨⟨⟨hk1, hk2⟩, hx⟩, hr⟩ := h'
    simp only [Memory.write]
    split
    · next hak =>
      refine wfIn_cons ?_ h1 h2
      simp only [wfIn, Bool.and_eq_true, decide_eq_true_eq]
      exact ⟨⟨⟨by omega, hk2⟩, hx⟩, hr⟩
    · split
      · next hak => exact wfIn_cons (hak ▸ hr) h1 h2
      · simp only [wfIn, Bool.and_eq_true, decide_eq_true_eq]
        exact ⟨⟨⟨hk1, hk2⟩, hx⟩, ih hr (by omega)⟩

/-- A read after a write to a canonical memory. -/
theorem read_write {m : Memory} {lo hi : Nat} (h : m.wfIn lo hi = true) (a : Nat) (v : Byte) (x : Nat) :
    (m.write a v).read x = if x = a then v else m.read x := by
  induction m generalizing lo with
  | nil => exact read_cons a v [] rfl x
  | cons e rest ih =>
    obtain ⟨k, w⟩ := e
    have h' := h
    simp only [wfIn, Bool.and_eq_true, decide_eq_true_eq] at h'
    obtain ⟨_, hr⟩ := h'
    simp only [Memory.write]
    split
    · next hak =>
      refine read_cons a v _ ?_ x
      have hk : k ≠ a := by omega
      simp only [Memory.read, if_neg hk]
      exact read_of_lt hr (by omega)
    · split
      · next hak =>
        subst hak
        rw [read_cons a v rest (read_of_lt hr (by omega)) x]
        by_cases hx : x = a
        · simp [hx]
        · simp [Memory.read, hx, Ne.symm hx]
      · next h1 h2 =>
        simp only [Memory.read]
        by_cases hx : k = x
        · have : x ≠ a := by omega
          simp [hx, this]
        · simp only [if_neg hx]
          exact ih hr

/-- A write to any memory leaves every other key alone. -/
theorem read_write_of_ne (m : Memory) {a x : Nat} (hx : x ≠ a) (v : Byte) : (m.write a v).read x = m.read x := by
  have hcons : ∀ rest : Memory, (Memory.cons a v rest).read x = rest.read x := by
    intro rest
    unfold Memory.cons
    split
    · rfl
    · simp [Memory.read, Ne.symm hx]
  induction m with
  | nil => exact hcons []
  | cons e rest ih =>
    obtain ⟨k, w⟩ := e
    simp only [Memory.write]
    split
    · exact hcons _
    · split
      · next hak => rw [hcons]; simp [Memory.read, ← hak, Ne.symm hx]
      · simp only [Memory.read, ih]

/-- Canonical memories that read alike are the same list. -/
theorem ext_of_wfIn {m m' : Memory} {lo hi : Nat} (h : m.wfIn lo hi = true) (h' : m'.wfIn lo hi = true)
    (heq : ∀ a, m.read a = m'.read a) : m = m' := by
  induction m generalizing lo m' with
  | nil =>
    cases m' with
    | nil => rfl
    | cons e rest =>
      obtain ⟨k, v⟩ := e
      simp only [wfIn, Bool.and_eq_true, decide_eq_true_eq] at h'
      exact absurd (by simpa [Memory.read] using (heq k).symm) h'.1.2
  | cons e rest ih =>
    obtain ⟨k, v⟩ := e
    have hw := h
    simp only [wfIn, Bool.and_eq_true, decide_eq_true_eq] at hw
    cases m' with
    | nil => exact absurd (by simpa [Memory.read] using heq k) hw.1.2
    | cons e' rest' =>
      obtain ⟨k', v'⟩ := e'
      have hw' := h'
      simp only [wfIn, Bool.and_eq_true, decide_eq_true_eq] at hw'
      have hk : k = k' := by
        rcases Nat.lt_trichotomy k k' with hlt | heq' | hgt
        · have := heq k
          rw [show Memory.read ((k', v') :: rest') k = Config.unwrittenByte from by
            simp only [Memory.read, if_neg (show k' ≠ k by omega)]
            exact read_of_lt hw'.2 (by omega)] at this
          exact absurd (by simpa [Memory.read] using this) hw.1.2
        · exact heq'
        · have := heq k'
          rw [show Memory.read ((k, v) :: rest) k' = Config.unwrittenByte from by
            simp only [Memory.read, if_neg (show k ≠ k' by omega)]
            exact read_of_lt hw.2 (by omega)] at this
          exact absurd (by simpa [Memory.read] using this.symm) hw'.1.2
      subst hk
      have hv : v = v' := by simpa [Memory.read] using heq k
      subst hv
      congr 1
      refine ih hw.2 hw'.2 ?_
      intro a
      by_cases ha : k = a
      · subst ha
        rw [read_of_lt hw.2 (by omega), read_of_lt hw'.2 (by omega)]
      · simpa [Memory.read, ha] using heq a

/-- The empty memory is canonical over every range. -/
@[simp] theorem wfIn_nil (lo hi : Nat) : Memory.wfIn [] lo hi = true := rfl

/-- A canonical memory over the 16-bit address space keeps its form under a write at an address. -/
theorem wf_write {m : Memory} (h : m.wf = true) (a : Word) (v : Byte) : (m.write a.toNat v).wf = true :=
  wfIn_write h (Nat.zero_le _) (by have := a.isLt; omega) v

end Memory

/-- The memory of the reset state is canonical. -/
theorem State.reset_memory_wf : State.reset.hram.wf = true ∧ State.reset.before = [] ∧
    State.reset.after = [.ram 0x0000 0xFFFF []] := ⟨rfl, rfl, rfl⟩

end Sys2Proof.Machine
end

