-- ==== Sys2Proof/Laws/State.lean ====
section
/-! SUPPORT. What each update of the state leaves alone, one lemma for each field, and what it makes of the fields it
writes. No later proof unfolds a record update. -/

namespace Sys2Proof.Machine

variable (s : State)

/-! ### `setReg` -/

@[simp] theorem State.setReg_sp (r : Reg) (v : Byte) : (s.setReg r v).sp = s.sp := rfl
@[simp] theorem State.setReg_pc (r : Reg) (v : Byte) : (s.setReg r v).pc = s.pc := rfl
@[simp] theorem State.setReg_ime (r : Reg) (v : Byte) : (s.setReg r v).ime = s.ime := rfl
@[simp] theorem State.setReg_ie (r : Reg) (v : Byte) : (s.setReg r v).ie = s.ie := rfl
@[simp] theorem State.setReg_ifr (r : Reg) (v : Byte) : (s.setReg r v).ifr = s.ifr := rfl
@[simp] theorem State.setReg_hram (r : Reg) (v : Byte) : (s.setReg r v).hram = s.hram := rfl
@[simp] theorem State.setReg_halted (r : Reg) (v : Byte) : (s.setReg r v).halted = s.halted := rfl
@[simp] theorem State.setReg_wait (r : Reg) (v : Byte) : (s.setReg r v).wait = s.wait := rfl
@[simp] theorem State.setReg_before (r : Reg) (v : Byte) : (s.setReg r v).before = s.before := rfl
@[simp] theorem State.setReg_after (r : Reg) (v : Byte) : (s.setReg r v).after = s.after := rfl
@[simp] theorem State.setReg_cycle (r : Reg) (v : Byte) : (s.setReg r v).cycle = s.cycle := rfl
@[simp] theorem State.setReg_inputs (r : Reg) (v : Byte) : (s.setReg r v).inputs = s.inputs := rfl
@[simp] theorem State.setReg_accesses (r : Reg) (v : Byte) : (s.setReg r v).accesses = s.accesses := rfl

/-! ### `setPair` -/

@[simp] theorem State.setPair_sp (q : Pair) (v : Word) : (s.setPair q v).sp = s.sp := rfl
@[simp] theorem State.setPair_pc (q : Pair) (v : Word) : (s.setPair q v).pc = s.pc := rfl
@[simp] theorem State.setPair_ime (q : Pair) (v : Word) : (s.setPair q v).ime = s.ime := rfl
@[simp] theorem State.setPair_ie (q : Pair) (v : Word) : (s.setPair q v).ie = s.ie := rfl
@[simp] theorem State.setPair_ifr (q : Pair) (v : Word) : (s.setPair q v).ifr = s.ifr := rfl
@[simp] theorem State.setPair_hram (q : Pair) (v : Word) : (s.setPair q v).hram = s.hram := rfl
@[simp] theorem State.setPair_halted (q : Pair) (v : Word) : (s.setPair q v).halted = s.halted := rfl
@[simp] theorem State.setPair_wait (q : Pair) (v : Word) : (s.setPair q v).wait = s.wait := rfl
@[simp] theorem State.setPair_before (q : Pair) (v : Word) : (s.setPair q v).before = s.before := rfl
@[simp] theorem State.setPair_after (q : Pair) (v : Word) : (s.setPair q v).after = s.after := rfl
@[simp] theorem State.setPair_cycle (q : Pair) (v : Word) : (s.setPair q v).cycle = s.cycle := rfl
@[simp] theorem State.setPair_inputs (q : Pair) (v : Word) : (s.setPair q v).inputs = s.inputs := rfl
@[simp] theorem State.setPair_accesses (q : Pair) (v : Word) : (s.setPair q v).accesses = s.accesses := rfl

/-! ### `setFlags` -/

@[simp] theorem State.setFlags_sp (z n h c : FlagSel) : (s.setFlags z n h c).sp = s.sp := rfl
@[simp] theorem State.setFlags_pc (z n h c : FlagSel) : (s.setFlags z n h c).pc = s.pc := rfl
@[simp] theorem State.setFlags_ime (z n h c : FlagSel) : (s.setFlags z n h c).ime = s.ime := rfl
@[simp] theorem State.setFlags_ie (z n h c : FlagSel) : (s.setFlags z n h c).ie = s.ie := rfl
@[simp] theorem State.setFlags_ifr (z n h c : FlagSel) : (s.setFlags z n h c).ifr = s.ifr := rfl
@[simp] theorem State.setFlags_hram (z n h c : FlagSel) : (s.setFlags z n h c).hram = s.hram := rfl
@[simp] theorem State.setFlags_halted (z n h c : FlagSel) : (s.setFlags z n h c).halted = s.halted := rfl
@[simp] theorem State.setFlags_wait (z n h c : FlagSel) : (s.setFlags z n h c).wait = s.wait := rfl
@[simp] theorem State.setFlags_before (z n h c : FlagSel) : (s.setFlags z n h c).before = s.before := rfl
@[simp] theorem State.setFlags_after (z n h c : FlagSel) : (s.setFlags z n h c).after = s.after := rfl
@[simp] theorem State.setFlags_cycle (z n h c : FlagSel) : (s.setFlags z n h c).cycle = s.cycle := rfl
@[simp] theorem State.setFlags_inputs (z n h c : FlagSel) : (s.setFlags z n h c).inputs = s.inputs := rfl
@[simp] theorem State.setFlags_accesses (z n h c : FlagSel) : (s.setFlags z n h c).accesses = s.accesses := rfl

/-! ### `setR16` -/

@[simp] theorem State.setR16_pc (p : R16) (v : Word) : (s.setR16 p v).pc = s.pc := by cases p <;> rfl
@[simp] theorem State.setR16_ime (p : R16) (v : Word) : (s.setR16 p v).ime = s.ime := by cases p <;> rfl
@[simp] theorem State.setR16_ie (p : R16) (v : Word) : (s.setR16 p v).ie = s.ie := by cases p <;> rfl
@[simp] theorem State.setR16_ifr (p : R16) (v : Word) : (s.setR16 p v).ifr = s.ifr := by cases p <;> rfl
@[simp] theorem State.setR16_hram (p : R16) (v : Word) : (s.setR16 p v).hram = s.hram := by cases p <;> rfl
@[simp] theorem State.setR16_halted (p : R16) (v : Word) : (s.setR16 p v).halted = s.halted := by cases p <;> rfl
@[simp] theorem State.setR16_wait (p : R16) (v : Word) : (s.setR16 p v).wait = s.wait := by cases p <;> rfl
@[simp] theorem State.setR16_before (p : R16) (v : Word) : (s.setR16 p v).before = s.before := by cases p <;> rfl
@[simp] theorem State.setR16_after (p : R16) (v : Word) : (s.setR16 p v).after = s.after := by cases p <;> rfl
@[simp] theorem State.setR16_cycle (p : R16) (v : Word) : (s.setR16 p v).cycle = s.cycle := by cases p <;> rfl
@[simp] theorem State.setR16_inputs (p : R16) (v : Word) : (s.setR16 p v).inputs = s.inputs := by cases p <;> rfl
@[simp] theorem State.setR16_accesses (p : R16) (v : Word) : (s.setR16 p v).accesses = s.accesses := by cases p <;> rfl

/-! ### `note` -/

@[simp] theorem State.note_regs (x : BusAccess) : (s.note x).regs = s.regs := rfl
@[simp] theorem State.note_sp (x : BusAccess) : (s.note x).sp = s.sp := rfl
@[simp] theorem State.note_pc (x : BusAccess) : (s.note x).pc = s.pc := rfl
@[simp] theorem State.note_ime (x : BusAccess) : (s.note x).ime = s.ime := rfl
@[simp] theorem State.note_ie (x : BusAccess) : (s.note x).ie = s.ie := rfl
@[simp] theorem State.note_ifr (x : BusAccess) : (s.note x).ifr = s.ifr := rfl
@[simp] theorem State.note_hram (x : BusAccess) : (s.note x).hram = s.hram := rfl
@[simp] theorem State.note_halted (x : BusAccess) : (s.note x).halted = s.halted := rfl
@[simp] theorem State.note_wait (x : BusAccess) : (s.note x).wait = s.wait := rfl
@[simp] theorem State.note_before (x : BusAccess) : (s.note x).before = s.before := rfl
@[simp] theorem State.note_after (x : BusAccess) : (s.note x).after = s.after := rfl
@[simp] theorem State.note_cycle (x : BusAccess) : (s.note x).cycle = s.cycle := rfl
@[simp] theorem State.note_inputs (x : BusAccess) : (s.note x).inputs = s.inputs := rfl

/-! ### `retire` -/

@[simp] theorem State.retire_regs (pc : Word) (k : Nat) : (s.retire pc k).regs = s.regs := rfl
@[simp] theorem State.retire_sp (pc : Word) (k : Nat) : (s.retire pc k).sp = s.sp := rfl
@[simp] theorem State.retire_ime (pc : Word) (k : Nat) : (s.retire pc k).ime = s.ime := rfl
@[simp] theorem State.retire_ie (pc : Word) (k : Nat) : (s.retire pc k).ie = s.ie := rfl
@[simp] theorem State.retire_ifr (pc : Word) (k : Nat) : (s.retire pc k).ifr = s.ifr := rfl
@[simp] theorem State.retire_hram (pc : Word) (k : Nat) : (s.retire pc k).hram = s.hram := rfl
@[simp] theorem State.retire_halted (pc : Word) (k : Nat) : (s.retire pc k).halted = s.halted := rfl
@[simp] theorem State.retire_before (pc : Word) (k : Nat) : (s.retire pc k).before = s.before := rfl
@[simp] theorem State.retire_after (pc : Word) (k : Nat) : (s.retire pc k).after = s.after := rfl
@[simp] theorem State.retire_cycle (pc : Word) (k : Nat) : (s.retire pc k).cycle = s.cycle := rfl
@[simp] theorem State.retire_inputs (pc : Word) (k : Nat) : (s.retire pc k).inputs = s.inputs := rfl
@[simp] theorem State.retire_accesses (pc : Word) (k : Nat) : (s.retire pc k).accesses = s.accesses := rfl

/-! ### `memRead` -/

@[simp] theorem State.memRead_regs (a : Word) : (s.memRead a).2.regs = s.regs := rfl
@[simp] theorem State.memRead_sp (a : Word) : (s.memRead a).2.sp = s.sp := rfl
@[simp] theorem State.memRead_pc (a : Word) : (s.memRead a).2.pc = s.pc := rfl
@[simp] theorem State.memRead_ime (a : Word) : (s.memRead a).2.ime = s.ime := rfl
@[simp] theorem State.memRead_ie (a : Word) : (s.memRead a).2.ie = s.ie := rfl
@[simp] theorem State.memRead_ifr (a : Word) : (s.memRead a).2.ifr = s.ifr := rfl
@[simp] theorem State.memRead_hram (a : Word) : (s.memRead a).2.hram = s.hram := rfl
@[simp] theorem State.memRead_halted (a : Word) : (s.memRead a).2.halted = s.halted := rfl
@[simp] theorem State.memRead_wait (a : Word) : (s.memRead a).2.wait = s.wait := rfl
@[simp] theorem State.memRead_before (a : Word) : (s.memRead a).2.before = s.before := rfl
@[simp] theorem State.memRead_after (a : Word) : (s.memRead a).2.after = s.after := rfl
@[simp] theorem State.memRead_cycle (a : Word) : (s.memRead a).2.cycle = s.cycle := rfl
@[simp] theorem State.memRead_inputs (a : Word) : (s.memRead a).2.inputs = s.inputs := rfl

/-! ### `coreWrite` -/

@[simp] theorem State.coreWrite_regs (a : Word) (v : Byte) : (s.coreWrite a v).regs = s.regs := rfl
@[simp] theorem State.coreWrite_sp (a : Word) (v : Byte) : (s.coreWrite a v).sp = s.sp := rfl
@[simp] theorem State.coreWrite_pc (a : Word) (v : Byte) : (s.coreWrite a v).pc = s.pc := rfl
@[simp] theorem State.coreWrite_ime (a : Word) (v : Byte) : (s.coreWrite a v).ime = s.ime := rfl
@[simp] theorem State.coreWrite_halted (a : Word) (v : Byte) : (s.coreWrite a v).halted = s.halted := rfl
@[simp] theorem State.coreWrite_wait (a : Word) (v : Byte) : (s.coreWrite a v).wait = s.wait := rfl
@[simp] theorem State.coreWrite_before (a : Word) (v : Byte) : (s.coreWrite a v).before = s.before := rfl
@[simp] theorem State.coreWrite_after (a : Word) (v : Byte) : (s.coreWrite a v).after = s.after := rfl
@[simp] theorem State.coreWrite_cycle (a : Word) (v : Byte) : (s.coreWrite a v).cycle = s.cycle := rfl
@[simp] theorem State.coreWrite_inputs (a : Word) (v : Byte) : (s.coreWrite a v).inputs = s.inputs := rfl
@[simp] theorem State.coreWrite_accesses (a : Word) (v : Byte) : (s.coreWrite a v).accesses = s.accesses := rfl

/-! ### `busWrite` -/

@[simp] theorem State.busWrite_regs (a : Word) (v : Byte) : (s.busWrite a v).regs = s.regs := rfl
@[simp] theorem State.busWrite_sp (a : Word) (v : Byte) : (s.busWrite a v).sp = s.sp := rfl
@[simp] theorem State.busWrite_pc (a : Word) (v : Byte) : (s.busWrite a v).pc = s.pc := rfl
@[simp] theorem State.busWrite_ime (a : Word) (v : Byte) : (s.busWrite a v).ime = s.ime := rfl
@[simp] theorem State.busWrite_halted (a : Word) (v : Byte) : (s.busWrite a v).halted = s.halted := rfl
@[simp] theorem State.busWrite_wait (a : Word) (v : Byte) : (s.busWrite a v).wait = s.wait := rfl
@[simp] theorem State.busWrite_cycle (a : Word) (v : Byte) : (s.busWrite a v).cycle = s.cycle := rfl
@[simp] theorem State.busWrite_inputs (a : Word) (v : Byte) : (s.busWrite a v).inputs = s.inputs := rfl
@[simp] theorem State.busWrite_accesses (a : Word) (v : Byte) : (s.busWrite a v).accesses = s.accesses := rfl

/-! ### `memWrite` -/

@[simp] theorem State.memWrite_regs (a : Word) (v : Byte) : (s.memWrite a v).regs = s.regs := rfl
@[simp] theorem State.memWrite_sp (a : Word) (v : Byte) : (s.memWrite a v).sp = s.sp := rfl
@[simp] theorem State.memWrite_pc (a : Word) (v : Byte) : (s.memWrite a v).pc = s.pc := rfl
@[simp] theorem State.memWrite_ime (a : Word) (v : Byte) : (s.memWrite a v).ime = s.ime := rfl
@[simp] theorem State.memWrite_halted (a : Word) (v : Byte) : (s.memWrite a v).halted = s.halted := rfl
@[simp] theorem State.memWrite_wait (a : Word) (v : Byte) : (s.memWrite a v).wait = s.wait := rfl
@[simp] theorem State.memWrite_cycle (a : Word) (v : Byte) : (s.memWrite a v).cycle = s.cycle := rfl
@[simp] theorem State.memWrite_inputs (a : Word) (v : Byte) : (s.memWrite a v).inputs = s.inputs := rfl

/-! ### `memWrite16` -/

@[simp] theorem State.memWrite16_regs (a v : Word) : (s.memWrite16 a v).regs = s.regs :=
  (State.memWrite_regs _ _ _).trans (State.memWrite_regs s _ _)
@[simp] theorem State.memWrite16_sp (a v : Word) : (s.memWrite16 a v).sp = s.sp :=
  (State.memWrite_sp _ _ _).trans (State.memWrite_sp s _ _)
@[simp] theorem State.memWrite16_pc (a v : Word) : (s.memWrite16 a v).pc = s.pc :=
  (State.memWrite_pc _ _ _).trans (State.memWrite_pc s _ _)
@[simp] theorem State.memWrite16_ime (a v : Word) : (s.memWrite16 a v).ime = s.ime :=
  (State.memWrite_ime _ _ _).trans (State.memWrite_ime s _ _)
@[simp] theorem State.memWrite16_halted (a v : Word) : (s.memWrite16 a v).halted = s.halted :=
  (State.memWrite_halted _ _ _).trans (State.memWrite_halted s _ _)
@[simp] theorem State.memWrite16_wait (a v : Word) : (s.memWrite16 a v).wait = s.wait :=
  (State.memWrite_wait _ _ _).trans (State.memWrite_wait s _ _)
@[simp] theorem State.memWrite16_cycle (a v : Word) : (s.memWrite16 a v).cycle = s.cycle :=
  (State.memWrite_cycle _ _ _).trans (State.memWrite_cycle s _ _)
@[simp] theorem State.memWrite16_inputs (a v : Word) : (s.memWrite16 a v).inputs = s.inputs :=
  (State.memWrite_inputs _ _ _).trans (State.memWrite_inputs s _ _)

/-! ### `push16` -/

@[simp] theorem State.push16_regs (v : Word) : (s.push16 v).regs = s.regs := rfl
@[simp] theorem State.push16_pc (v : Word) : (s.push16 v).pc = s.pc := rfl
@[simp] theorem State.push16_ime (v : Word) : (s.push16 v).ime = s.ime := rfl
@[simp] theorem State.push16_halted (v : Word) : (s.push16 v).halted = s.halted := rfl
@[simp] theorem State.push16_wait (v : Word) : (s.push16 v).wait = s.wait := rfl
@[simp] theorem State.push16_cycle (v : Word) : (s.push16 v).cycle = s.cycle := rfl
@[simp] theorem State.push16_inputs (v : Word) : (s.push16 v).inputs = s.inputs := rfl

/-! ### `pop16` -/

@[simp] theorem State.pop16_regs : s.pop16.2.regs = s.regs := rfl
@[simp] theorem State.pop16_pc : s.pop16.2.pc = s.pc := rfl
@[simp] theorem State.pop16_ime : s.pop16.2.ime = s.ime := rfl
@[simp] theorem State.pop16_ie : s.pop16.2.ie = s.ie := rfl
@[simp] theorem State.pop16_ifr : s.pop16.2.ifr = s.ifr := rfl
@[simp] theorem State.pop16_hram : s.pop16.2.hram = s.hram := rfl
@[simp] theorem State.pop16_halted : s.pop16.2.halted = s.halted := rfl
@[simp] theorem State.pop16_wait : s.pop16.2.wait = s.wait := rfl
@[simp] theorem State.pop16_before : s.pop16.2.before = s.before := rfl
@[simp] theorem State.pop16_after : s.pop16.2.after = s.after := rfl
@[simp] theorem State.pop16_cycle : s.pop16.2.cycle = s.cycle := rfl
@[simp] theorem State.pop16_inputs : s.pop16.2.inputs = s.inputs := rfl

/-! ### `rd8` -/

@[simp] theorem State.rd8_regs (o : Opd8) : (s.rd8 o).2.regs = s.regs := by cases o <;> rfl
@[simp] theorem State.rd8_sp (o : Opd8) : (s.rd8 o).2.sp = s.sp := by cases o <;> rfl
@[simp] theorem State.rd8_pc (o : Opd8) : (s.rd8 o).2.pc = s.pc := by cases o <;> rfl
@[simp] theorem State.rd8_ime (o : Opd8) : (s.rd8 o).2.ime = s.ime := by cases o <;> rfl
@[simp] theorem State.rd8_ie (o : Opd8) : (s.rd8 o).2.ie = s.ie := by cases o <;> rfl
@[simp] theorem State.rd8_ifr (o : Opd8) : (s.rd8 o).2.ifr = s.ifr := by cases o <;> rfl
@[simp] theorem State.rd8_hram (o : Opd8) : (s.rd8 o).2.hram = s.hram := by cases o <;> rfl
@[simp] theorem State.rd8_halted (o : Opd8) : (s.rd8 o).2.halted = s.halted := by cases o <;> rfl
@[simp] theorem State.rd8_wait (o : Opd8) : (s.rd8 o).2.wait = s.wait := by cases o <;> rfl
@[simp] theorem State.rd8_before (o : Opd8) : (s.rd8 o).2.before = s.before := by cases o <;> rfl
@[simp] theorem State.rd8_after (o : Opd8) : (s.rd8 o).2.after = s.after := by cases o <;> rfl
@[simp] theorem State.rd8_cycle (o : Opd8) : (s.rd8 o).2.cycle = s.cycle := by cases o <;> rfl
@[simp] theorem State.rd8_inputs (o : Opd8) : (s.rd8 o).2.inputs = s.inputs := by cases o <;> rfl

/-! ### `wr8` -/

@[simp] theorem State.wr8_sp (o : Opd8) (v : Byte) : (s.wr8 o v).sp = s.sp := by cases o <;> rfl
@[simp] theorem State.wr8_pc (o : Opd8) (v : Byte) : (s.wr8 o v).pc = s.pc := by cases o <;> rfl
@[simp] theorem State.wr8_ime (o : Opd8) (v : Byte) : (s.wr8 o v).ime = s.ime := by cases o <;> rfl
@[simp] theorem State.wr8_halted (o : Opd8) (v : Byte) : (s.wr8 o v).halted = s.halted := by cases o <;> rfl
@[simp] theorem State.wr8_wait (o : Opd8) (v : Byte) : (s.wr8 o v).wait = s.wait := by cases o <;> rfl
@[simp] theorem State.wr8_cycle (o : Opd8) (v : Byte) : (s.wr8 o v).cycle = s.cycle := by cases o <;> rfl
@[simp] theorem State.wr8_inputs (o : Opd8) (v : Byte) : (s.wr8 o v).inputs = s.inputs := by cases o <;> rfl

/-! ### `callTo` -/

@[simp] theorem State.callTo_regs (w : Word) (n k : Nat) : (s.callTo w n k).regs = s.regs := rfl
@[simp] theorem State.callTo_ime (w : Word) (n k : Nat) : (s.callTo w n k).ime = s.ime := rfl
@[simp] theorem State.callTo_halted (w : Word) (n k : Nat) : (s.callTo w n k).halted = s.halted := rfl
@[simp] theorem State.callTo_cycle (w : Word) (n k : Nat) : (s.callTo w n k).cycle = s.cycle := rfl
@[simp] theorem State.callTo_inputs (w : Word) (n k : Nat) : (s.callTo w n k).inputs = s.inputs := rfl

/-! ### `returnTo` -/

@[simp] theorem State.returnTo_regs (k : Nat) : (s.returnTo k).regs = s.regs := rfl
@[simp] theorem State.returnTo_ime (k : Nat) : (s.returnTo k).ime = s.ime := rfl
@[simp] theorem State.returnTo_ie (k : Nat) : (s.returnTo k).ie = s.ie := rfl
@[simp] theorem State.returnTo_ifr (k : Nat) : (s.returnTo k).ifr = s.ifr := rfl
@[simp] theorem State.returnTo_hram (k : Nat) : (s.returnTo k).hram = s.hram := rfl
@[simp] theorem State.returnTo_halted (k : Nat) : (s.returnTo k).halted = s.halted := rfl
@[simp] theorem State.returnTo_before (k : Nat) : (s.returnTo k).before = s.before := rfl
@[simp] theorem State.returnTo_after (k : Nat) : (s.returnTo k).after = s.after := rfl
@[simp] theorem State.returnTo_cycle (k : Nat) : (s.returnTo k).cycle = s.cycle := rfl
@[simp] theorem State.returnTo_inputs (k : Nat) : (s.returnTo k).inputs = s.inputs := rfl

/-! ### `returnFromInterrupt` -/

@[simp] theorem State.returnFromInterrupt_regs (k : Nat) : (s.returnFromInterrupt k).regs = s.regs := rfl
@[simp] theorem State.returnFromInterrupt_ie (k : Nat) : (s.returnFromInterrupt k).ie = s.ie := rfl
@[simp] theorem State.returnFromInterrupt_ifr (k : Nat) : (s.returnFromInterrupt k).ifr = s.ifr := rfl
@[simp] theorem State.returnFromInterrupt_hram (k : Nat) : (s.returnFromInterrupt k).hram = s.hram := rfl
@[simp] theorem State.returnFromInterrupt_halted (k : Nat) : (s.returnFromInterrupt k).halted = s.halted := rfl
@[simp] theorem State.returnFromInterrupt_before (k : Nat) : (s.returnFromInterrupt k).before = s.before := rfl
@[simp] theorem State.returnFromInterrupt_after (k : Nat) : (s.returnFromInterrupt k).after = s.after := rfl
@[simp] theorem State.returnFromInterrupt_cycle (k : Nat) : (s.returnFromInterrupt k).cycle = s.cycle := rfl
@[simp] theorem State.returnFromInterrupt_inputs (k : Nat) : (s.returnFromInterrupt k).inputs = s.inputs := rfl

/-! ### `mergeRequests` -/

@[simp] theorem State.mergeRequests_regs (q : BitVec 5) : (s.mergeRequests q).regs = s.regs := rfl
@[simp] theorem State.mergeRequests_sp (q : BitVec 5) : (s.mergeRequests q).sp = s.sp := rfl
@[simp] theorem State.mergeRequests_pc (q : BitVec 5) : (s.mergeRequests q).pc = s.pc := rfl
@[simp] theorem State.mergeRequests_ime (q : BitVec 5) : (s.mergeRequests q).ime = s.ime := rfl
@[simp] theorem State.mergeRequests_ie (q : BitVec 5) : (s.mergeRequests q).ie = s.ie := rfl
@[simp] theorem State.mergeRequests_hram (q : BitVec 5) : (s.mergeRequests q).hram = s.hram := rfl
@[simp] theorem State.mergeRequests_halted (q : BitVec 5) : (s.mergeRequests q).halted = s.halted := rfl
@[simp] theorem State.mergeRequests_wait (q : BitVec 5) : (s.mergeRequests q).wait = s.wait := rfl
@[simp] theorem State.mergeRequests_before (q : BitVec 5) : (s.mergeRequests q).before = s.before := rfl
@[simp] theorem State.mergeRequests_after (q : BitVec 5) : (s.mergeRequests q).after = s.after := rfl
@[simp] theorem State.mergeRequests_cycle (q : BitVec 5) : (s.mergeRequests q).cycle = s.cycle := rfl
@[simp] theorem State.mergeRequests_inputs (q : BitVec 5) : (s.mergeRequests q).inputs = s.inputs := rfl
@[simp] theorem State.mergeRequests_accesses (q : BitVec 5) : (s.mergeRequests q).accesses = s.accesses := rfl

/-! ### `requestInterrupt` -/

@[simp] theorem State.requestInterrupt_regs (i : IrqSource) : (s.requestInterrupt i).regs = s.regs := rfl
@[simp] theorem State.requestInterrupt_sp (i : IrqSource) : (s.requestInterrupt i).sp = s.sp := rfl
@[simp] theorem State.requestInterrupt_pc (i : IrqSource) : (s.requestInterrupt i).pc = s.pc := rfl
@[simp] theorem State.requestInterrupt_ime (i : IrqSource) : (s.requestInterrupt i).ime = s.ime := rfl
@[simp] theorem State.requestInterrupt_ie (i : IrqSource) : (s.requestInterrupt i).ie = s.ie := rfl
@[simp] theorem State.requestInterrupt_hram (i : IrqSource) : (s.requestInterrupt i).hram = s.hram := rfl
@[simp] theorem State.requestInterrupt_halted (i : IrqSource) : (s.requestInterrupt i).halted = s.halted := rfl
@[simp] theorem State.requestInterrupt_wait (i : IrqSource) : (s.requestInterrupt i).wait = s.wait := rfl
@[simp] theorem State.requestInterrupt_before (i : IrqSource) : (s.requestInterrupt i).before = s.before := rfl
@[simp] theorem State.requestInterrupt_after (i : IrqSource) : (s.requestInterrupt i).after = s.after := rfl
@[simp] theorem State.requestInterrupt_cycle (i : IrqSource) : (s.requestInterrupt i).cycle = s.cycle := rfl
@[simp] theorem State.requestInterrupt_inputs (i : IrqSource) : (s.requestInterrupt i).inputs = s.inputs := rfl
@[simp] theorem State.requestInterrupt_accesses (i : IrqSource) : (s.requestInterrupt i).accesses = s.accesses := rfl

/-! ### `wake` -/

@[simp] theorem State.wake_regs : s.wake.regs = s.regs := by unfold State.wake; split <;> rfl
@[simp] theorem State.wake_sp : s.wake.sp = s.sp := by unfold State.wake; split <;> rfl
@[simp] theorem State.wake_pc : s.wake.pc = s.pc := by unfold State.wake; split <;> rfl
@[simp] theorem State.wake_ime : s.wake.ime = s.ime := by unfold State.wake; split <;> rfl
@[simp] theorem State.wake_ie : s.wake.ie = s.ie := by unfold State.wake; split <;> rfl
@[simp] theorem State.wake_ifr : s.wake.ifr = s.ifr := by unfold State.wake; split <;> rfl
@[simp] theorem State.wake_hram : s.wake.hram = s.hram := by unfold State.wake; split <;> rfl
@[simp] theorem State.wake_before : s.wake.before = s.before := by unfold State.wake; split <;> rfl
@[simp] theorem State.wake_after : s.wake.after = s.after := by unfold State.wake; split <;> rfl
@[simp] theorem State.wake_cycle : s.wake.cycle = s.cycle := by unfold State.wake; split <;> rfl
@[simp] theorem State.wake_inputs : s.wake.inputs = s.inputs := by unfold State.wake; split <;> rfl
@[simp] theorem State.wake_accesses : s.wake.accesses = s.accesses := by unfold State.wake; split <;> rfl

/-! ### `noteFetches` -/

@[simp] theorem State.noteFetches_regs (n : Nat) : (s.noteFetches n).regs = s.regs := by
  induction n with
  | zero => rfl
  | succ n ih => simpa only [State.noteFetches, State.note] using ih
@[simp] theorem State.noteFetches_sp (n : Nat) : (s.noteFetches n).sp = s.sp := by
  induction n with
  | zero => rfl
  | succ n ih => simpa only [State.noteFetches, State.note] using ih
@[simp] theorem State.noteFetches_pc (n : Nat) : (s.noteFetches n).pc = s.pc := by
  induction n with
  | zero => rfl
  | succ n ih => simpa only [State.noteFetches, State.note] using ih
@[simp] theorem State.noteFetches_ime (n : Nat) : (s.noteFetches n).ime = s.ime := by
  induction n with
  | zero => rfl
  | succ n ih => simpa only [State.noteFetches, State.note] using ih
@[simp] theorem State.noteFetches_ie (n : Nat) : (s.noteFetches n).ie = s.ie := by
  induction n with
  | zero => rfl
  | succ n ih => simpa only [State.noteFetches, State.note] using ih
@[simp] theorem State.noteFetches_ifr (n : Nat) : (s.noteFetches n).ifr = s.ifr := by
  induction n with
  | zero => rfl
  | succ n ih => simpa only [State.noteFetches, State.note] using ih
@[simp] theorem State.noteFetches_hram (n : Nat) : (s.noteFetches n).hram = s.hram := by
  induction n with
  | zero => rfl
  | succ n ih => simpa only [State.noteFetches, State.note] using ih
@[simp] theorem State.noteFetches_halted (n : Nat) : (s.noteFetches n).halted = s.halted := by
  induction n with
  | zero => rfl
  | succ n ih => simpa only [State.noteFetches, State.note] using ih
@[simp] theorem State.noteFetches_wait (n : Nat) : (s.noteFetches n).wait = s.wait := by
  induction n with
  | zero => rfl
  | succ n ih => simpa only [State.noteFetches, State.note] using ih
@[simp] theorem State.noteFetches_before (n : Nat) : (s.noteFetches n).before = s.before := by
  induction n with
  | zero => rfl
  | succ n ih => simpa only [State.noteFetches, State.note] using ih
@[simp] theorem State.noteFetches_after (n : Nat) : (s.noteFetches n).after = s.after := by
  induction n with
  | zero => rfl
  | succ n ih => simpa only [State.noteFetches, State.note] using ih
@[simp] theorem State.noteFetches_cycle (n : Nat) : (s.noteFetches n).cycle = s.cycle := by
  induction n with
  | zero => rfl
  | succ n ih => simpa only [State.noteFetches, State.note] using ih
@[simp] theorem State.noteFetches_inputs (n : Nat) : (s.noteFetches n).inputs = s.inputs := by
  induction n with
  | zero => rfl
  | succ n ih => simpa only [State.noteFetches, State.note] using ih

/-! ### Field values after an update -/

@[simp] theorem State.setReg_regs (r : Reg) (v : Byte) : (s.setReg r v).regs = s.regs.set r v := rfl
@[simp] theorem State.setPair_regs (q : Pair) (v : Word) : (s.setPair q v).regs = s.regs.setPair q v := rfl
@[simp] theorem State.note_accesses (x : BusAccess) : (s.note x).accesses = s.accesses ++ [x] := rfl
@[simp] theorem State.retire_pc (pc : Word) (k : Nat) : (s.retire pc k).pc = pc := rfl
@[simp] theorem State.retire_wait (pc : Word) (k : Nat) : (s.retire pc k).wait = k - 1 := rfl
@[simp] theorem State.memRead_accesses (a : Word) :
    (s.memRead a).2.accesses = s.accesses ++ [.read a (s.byteAt a)] := rfl
@[simp] theorem State.memRead_fst (a : Word) : (s.memRead a).1 = s.byteAt a := rfl
@[simp] theorem State.memWrite_accesses (a : Word) (v : Byte) :
    (s.memWrite a v).accesses = s.accesses ++ [.write a v] := rfl
@[simp] theorem State.mergeRequests_ifr (q : BitVec 5) : (s.mergeRequests q).ifr = s.ifr ||| q.setWidth 8 := rfl
theorem State.push16_sp (v : Word) : (s.push16 v).sp = s.sp - 1 - 1 := rfl
theorem State.pop16_sp : s.pop16.2.sp = s.sp + 1 + 1 := rfl
theorem State.pop16_fst : s.pop16.1 = Bits.make16 (s.byteAt (s.sp + 1)) (s.byteAt s.sp) := rfl

/-! ### What a read of a byte depends on -/

/-- A read of a byte depends on the components, CORE's three locations and the cycle, and on nothing else. -/
theorem State.busRead_congr {s t : State} (hb : t.before = s.before) (ha : t.after = s.after) (hie : t.ie = s.ie)
    (hif : t.ifr = s.ifr) (hh : t.hram = s.hram) (hc : t.cycle = s.cycle) (f : Bool) (a : Word) :
    t.busRead f a = s.busRead f a := by
  simp only [State.busRead, State.coreRead, hb, ha, hie, hif, hh, hc]

@[simp] theorem State.setReg_busRead (r : Reg) (v : Byte) (f : Bool) (a : Word) :
    (s.setReg r v).busRead f a = s.busRead f a :=
  State.busRead_congr rfl rfl rfl rfl rfl rfl f a
@[simp] theorem State.setPair_busRead (q : Pair) (v : Word) (f : Bool) (a : Word) :
    (s.setPair q v).busRead f a = s.busRead f a :=
  State.busRead_congr rfl rfl rfl rfl rfl rfl f a
@[simp] theorem State.setFlags_busRead (z n h c : FlagSel) (f : Bool) (a : Word) :
    (s.setFlags z n h c).busRead f a = s.busRead f a :=
  State.busRead_congr rfl rfl rfl rfl rfl rfl f a
@[simp] theorem State.note_busRead (x : BusAccess) (f : Bool) (a : Word) :
    (s.note x).busRead f a = s.busRead f a :=
  State.busRead_congr rfl rfl rfl rfl rfl rfl f a
@[simp] theorem State.retire_busRead (pc : Word) (k : Nat) (f : Bool) (a : Word) :
    (s.retire pc k).busRead f a = s.busRead f a :=
  State.busRead_congr rfl rfl rfl rfl rfl rfl f a
@[simp] theorem State.noteFetches_busRead (n : Nat) (f : Bool) (a : Word) :
    (s.noteFetches n).busRead f a = s.busRead f a :=
  State.busRead_congr (by simp) (by simp) (by simp) (by simp) (by simp) (by simp) f a

/-! ### The register file -/

theorem RegFile.get_set_of_ne (rf : RegFile) {r r' : Reg} (h : r' ≠ r) (v : Byte) : (rf.set r v).get r' = rf.get r' := by
  cases r <;> cases r' <;> first | rfl | exact absurd rfl h

theorem RegFile.get_set_self (rf : RegFile) {r : Reg} (h : r ≠ .F) (v : Byte) : (rf.set r v).get r = v := by
  cases r <;> first | rfl | exact absurd rfl h

@[simp] theorem RegFile.get_set_F (rf : RegFile) (v : Byte) : (rf.set .F v).get .F = v &&& 0xF0 := rfl

/-- Every write of a register keeps the low nibble of F at zero (R52). -/
theorem RegFile.set_f_low (rf : RegFile) (h : rf.f &&& 0x0F = 0) (r : Reg) (v : Byte) : (rf.set r v).f &&& 0x0F = 0 := by
  cases r <;> try exact h
  show v &&& 0xF0 &&& 0x0F = 0
  rw [BitVec.and_assoc]
  exact BitVec.and_zero

/-- An operand register is never F (R55). -/
theorem regOf_ne_F (r : Reg8) : regOf r ≠ .F := by cases r <;> decide

end Sys2Proof.Machine
end

