-- ==== Sys2Proof/Laws/Bus.lean ====
section
/-! SUPPORT. The bus: what a write changes for a later read, what it keeps, and the two stack primitives. -/

namespace Sys2Proof.Machine

/-! ### Components -/

@[simp] theorem Component.write_owns (k : Component) (a : Word) (v : Byte) (x : Word) :
    (k.write a v).owns x = k.owns x := by
  unfold Component.write
  split
  · cases k <;> rfl
  · rfl

@[simp] theorem Component.write_isRam (k : Component) (a : Word) (v : Byte) : (k.write a v).isRam = k.isRam := by
  unfold Component.write
  split
  · cases k <;> rfl
  · rfl

/-- A component answers only inside its range (R102). -/
theorem Component.read_of_not_owns {k : Component} {a : Word} (h : k.owns a = false) (c : Nat) (f : Bool) :
    k.read c f a = none := by simp [Component.read, h]

theorem toNat_ne {a x : Word} (h : x ≠ a) : x.toNat ≠ a.toNat := fun he => h (BitVec.eq_of_toNat_eq he)

/-- A write changes no other address of a component. -/
theorem Component.read_write_of_ne (k : Component) {a x : Word} (h : x ≠ a) (v : Byte) (c : Nat) (f : Bool) :
    (k.write a v).read c f x = k.read c f x := by
  cases ho : k.owns a with
  | false => simp only [Component.write, ho, Bool.false_eq_true, if_false]
  | true =>
    cases k with
    | ram first last cells =>
      simp only [Component.write, ho, if_true, Component.read]
      rw [Memory.read_write_of_ne cells (toNat_ne h) v]
      rfl
    | rom first last cells => simp only [Component.write, ho, if_true]
    | device id first last => simp only [Component.write, ho, if_true]

/-- The address range of a component as numbers. -/
theorem Component.owns_range {first last a : Word} {cells : Memory} (h : (Component.ram first last cells).owns a = true) :
    first.toNat ≤ a.toNat ∧ a.toNat ≤ last.toNat := by
  simpa [Component.owns, BitVec.le_def] using h

/-- A RAM that owns an address reads what was written there. -/
theorem Component.read_write_self {k : Component} (hk : k.isRam = true) (hwf : k.wf = true) {a : Word}
    (ho : k.owns a = true) (v : Byte) (c : Nat) (f : Bool) : (k.write a v).read c f a = some v := by
  cases k with
  | ram first last cells =>
    have ho' : (Component.ram first last (cells.write a.toNat v)).owns a = true := ho
    simp only [Component.write, ho, if_true, Component.read, ho']
    rw [Memory.read_write hwf, if_pos rfl]
  | rom first last cells => exact absurd hk (by simp [Component.isRam])
  | device id first last => exact absurd hk (by simp [Component.isRam])

/-- A write keeps a component canonical. -/
theorem Component.wf_write {k : Component} (h : k.wf = true) (a : Word) (v : Byte) : (k.write a v).wf = true := by
  unfold Component.write
  split
  · next ho =>
    cases k with
    | ram first last cells =>
      have hr := Component.owns_range ho
      exact Memory.wfIn_write h hr.1 hr.2 v
    | rom first last cells => exact h
    | device id first last => exact h
  · exact h

theorem Component.all_wf_write {ks : List Component} (h : ks.all Component.wf = true) (a : Word) (v : Byte) :
    (ks.map (fun k => Component.write k a v)).all Component.wf = true := by
  simp only [List.all_map, List.all_eq_true, Function.comp_apply] at h ⊢
  exact fun k hk => Component.wf_write (h k hk) a v

/-! ### The arbiter's lists -/

theorem firstAnswer_write_of_ne (ks : List Component) {a x : Word} (h : x ≠ a) (v : Byte) (c : Nat) (f : Bool) :
    firstAnswer (ks.map (fun k => Component.write k a v)) c f x = firstAnswer ks c f x := by
  induction ks with
  | nil => rfl
  | cons k rest ih => simp only [List.map_cons, firstAnswer, Component.read_write_of_ne k h, ih]

theorem firstOwner_write (ks : List Component) (a : Word) (v : Byte) (x : Word) :
    firstOwner (ks.map (fun k => Component.write k a v)) x = (firstOwner ks x).map (fun k => Component.write k a v) := by
  induction ks with
  | nil => rfl
  | cons k rest ih =>
    unfold firstOwner at ih ⊢
    simp only [List.map_cons, List.find?_cons, Component.write_owns]
    cases k.owns x with
    | true => rfl
    | false => exact ih

theorem firstOwner_cons (k : Component) (rest : List Component) (a : Word) :
    firstOwner (k :: rest) a = if k.owns a then some k else firstOwner rest a := by
  unfold firstOwner
  rw [List.find?_cons]
  cases k.owns a <;> rfl

/-- Where nobody claims an address nobody answers. -/
theorem firstAnswer_of_no_owner {ks : List Component} {a : Word} (h : firstOwner ks a = none) (c : Nat) (f : Bool) :
    firstAnswer ks c f a = none := by
  induction ks with
  | nil => rfl
  | cons k rest ih =>
    rw [firstOwner_cons] at h
    cases ho : k.owns a with
    | true => simp [ho] at h
    | false =>
      simp only [ho, Bool.false_eq_true, if_false] at h
      simp only [firstAnswer, Component.read_of_not_owns ho, ih h]

/-- Where the first claimant is a RAM, a read after a write gives the byte written. -/
theorem firstAnswer_write_self {ks : List Component} {a : Word} {k : Component} (h : firstOwner ks a = some k)
    (hk : k.isRam = true) (hwf : ks.all Component.wf = true) (v : Byte) (c : Nat) (f : Bool) :
    firstAnswer (ks.map (fun k => Component.write k a v)) c f a = some v := by
  induction ks with
  | nil => simp [firstOwner] at h
  | cons k' rest ih =>
    rw [firstOwner_cons] at h
    simp only [List.all_cons, Bool.and_eq_true] at hwf
    cases ho : k'.owns a with
    | true =>
      simp only [ho, if_true, Option.some.injEq] at h
      subst h
      simp only [List.map_cons, firstAnswer, Component.read_write_self hk hwf.1 ho]
    | false =>
      simp only [ho, Bool.false_eq_true, if_false] at h
      have ho' : (k'.write a v).owns a = false := by rw [Component.write_owns, ho]
      simp only [List.map_cons, firstAnswer, Component.read_of_not_owns ho']
      exact ih h hwf.2

/-! ### CORE's own decoder -/

theorem inHram_iff (a : Word) : inHram a = true ↔ 0xFF80 ≤ a.toNat ∧ a.toNat ≤ 0xFFFE := by
  simp [inHram, BitVec.le_def]

theorem inHram_bounds {a : Word} (h : inHram a = true) : hramIndex a ≤ 126 := by
  have := (inHram_iff a).1 h
  show a.toNat - 0xFF80 ≤ 126
  omega

theorem hramIndex_ne {a x : Word} (ha : inHram a = true) (hx : inHram x = true) (h : x ≠ a) :
    hramIndex x ≠ hramIndex a := by
  have h1 := (inHram_iff a).1 ha
  have h2 := (inHram_iff x).1 hx
  have h3 := toNat_ne h
  show x.toNat - 0xFF80 ≠ a.toNat - 0xFF80
  omega

theorem State.coreRead_coreWrite_of_ne (s : State) {a x : Word} (h : x ≠ a) (v : Byte) :
    (s.coreWrite a v).coreRead x = s.coreRead x := by
  unfold State.coreRead
  split
  · next h1 => exact congrArg some (if_neg (fun e => h (h1.trans e.symm)))
  · split
    · next h2 => exact congrArg some (if_neg (fun e => h (h2.trans e.symm)))
    · split
      · next hx =>
        refine congrArg some ?_
        show (if inHram a = true then s.hram.write (hramIndex a) v else s.hram).read (hramIndex x) = _
        split
        · next ha => exact Memory.read_write_of_ne _ (hramIndex_ne ha hx h) v
        · rfl
      · rfl

/-- CORE answers the same addresses after any write. -/
theorem State.coreRead_isSome_coreWrite (s : State) (a : Word) (v : Byte) (x : Word) :
    ((s.coreWrite a v).coreRead x).isSome = (s.coreRead x).isSome := by
  unfold State.coreRead
  split
  · rfl
  · split
    · rfl
    · split <;> rfl

/-- What CORE owns reads as it was written (R108). -/
theorem State.coreRead_coreWrite_self (s : State) (hh : s.hram.wfIn 0 126 = true) (a : Word) (v : Byte)
    (h : (s.coreRead a).isSome = true) : (s.coreWrite a v).coreRead a = some v := by
  unfold State.coreRead at h ⊢
  by_cases h1 : a = Config.addrIE
  · rw [if_pos h1]
    exact congrArg some (if_pos h1)
  · rw [if_neg h1] at h ⊢
    by_cases h2 : a = Config.addrIF
    · rw [if_pos h2]
      exact congrArg some (if_pos h2)
    · rw [if_neg h2] at h ⊢
      by_cases h3 : inHram a = true
      · rw [if_pos h3]
        refine congrArg some ?_
        show (if inHram a = true then s.hram.write (hramIndex a) v else s.hram).read (hramIndex a) = v
        rw [if_pos h3, Memory.read_write hh, if_pos rfl]
      · rw [if_neg h3] at h
        exact absurd h (by decide)

/-! ### Bus writes and reads -/

/-- A bus write leaves every other address as it was (R104, R102). -/
theorem State.busRead_busWrite_of_ne (s : State) {a x : Word} (h : x ≠ a) (v : Byte) (f : Bool) :
    (s.busWrite a v).busRead f x = s.busRead f x := by
  have hb : firstAnswer (s.busWrite a v).before (s.busWrite a v).cycle f x = firstAnswer s.before s.cycle f x :=
    firstAnswer_write_of_ne s.before h v s.cycle f
  have ha : firstAnswer (s.busWrite a v).after (s.busWrite a v).cycle f x = firstAnswer s.after s.cycle f x :=
    firstAnswer_write_of_ne s.after h v s.cycle f
  have hc : (s.busWrite a v).coreRead x = s.coreRead x := s.coreRead_coreWrite_of_ne h v
  simp only [State.busRead, hb, ha, hc]

/-- The storage test depends on the components' ranges only, so a write keeps it. -/
@[simp] theorem State.storageAt_busWrite (s : State) (a : Word) (v : Byte) (x : Word) :
    (s.busWrite a v).storageAt x = s.storageAt x := by
  have hb : firstOwner (s.busWrite a v).before x = (firstOwner s.before x).map (fun k => Component.write k a v) :=
    firstOwner_write s.before a v x
  have ha : firstOwner (s.busWrite a v).after x = (firstOwner s.after x).map (fun k => Component.write k a v) :=
    firstOwner_write s.after a v x
  have hc : ((s.busWrite a v).coreRead x).isSome = (s.coreRead x).isSome := s.coreRead_isSome_coreWrite a v x
  unfold State.storageAt
  rw [hb, ha, hc]
  cases firstOwner s.before x with
  | some k => simp
  | none => cases firstOwner s.after x <;> simp

/-- Which addresses CORE's own component answers at: a fact about the address alone (R108). -/
theorem State.coreRead_isSome (s : State) (a : Word) :
    (s.coreRead a).isSome = (decide (a = Config.addrIE) || decide (a = Config.addrIF) || inHram a) := by
  unfold State.coreRead
  by_cases h1 : a = Config.addrIE
  · simp [h1]
  · by_cases h2 : a = Config.addrIF
    · simp [h2]
    · rw [if_neg h1, if_neg h2, decide_eq_false h1, decide_eq_false h2]
      cases h3 : inHram a <;> simp

/-- The storage test depends on the platform's components only. -/
theorem State.storageAt_congr {s t : State} (hb : t.before = s.before) (ha : t.after = s.after) (a : Word) :
    t.storageAt a = s.storageAt a := by
  unfold State.storageAt
  rw [hb, ha, t.coreRead_isSome, s.coreRead_isSome]

/-- The components and CORE's fast RAM are canonical: the part of `State.wf` that reads and writes need. -/
def State.memWf (s : State) : Bool :=
  s.hram.wfIn 0 126 && s.before.all Component.wf && s.after.all Component.wf

theorem State.memWf_of_wf {s : State} (h : s.wf = true) : s.memWf = true := by
  simp only [State.wf, State.memWf, Bool.and_eq_true] at h ⊢
  exact ⟨⟨h.1.1.1.1.2, h.1.1.1.2⟩, h.1.1.2⟩

theorem State.memWf_busWrite {s : State} (h : s.memWf = true) (a : Word) (v : Byte) : (s.busWrite a v).memWf = true := by
  simp only [State.memWf, Bool.and_eq_true] at h ⊢
  obtain ⟨⟨h1, h2⟩, h3⟩ := h
  refine ⟨⟨?_, Component.all_wf_write h2 a v⟩, Component.all_wf_write h3 a v⟩
  show (if inHram a = true then s.hram.write (hramIndex a) v else s.hram).wfIn 0 126 = true
  split
  · next ha => exact Memory.wfIn_write h1 (Nat.zero_le _) (inHram_bounds ha) v
  · exact h1

/-- Where storage claims an address first, a read gives what was last written (R117). -/
theorem State.busRead_busWrite_self {s : State} (hwf : s.memWf = true) {a : Word} (h : s.storageAt a = true) (v : Byte)
    (f : Bool) : (s.busWrite a v).busRead f a = v := by
  simp only [State.memWf, Bool.and_eq_true] at hwf
  obtain ⟨⟨h1, h2⟩, h3⟩ := hwf
  unfold State.storageAt at h
  unfold State.busRead
  cases ho : firstOwner s.before a with
  | some k =>
    rw [ho] at h
    have := firstAnswer_write_self ho h h2 v s.cycle f
    rw [show firstAnswer (s.busWrite a v).before (s.busWrite a v).cycle f a = some v from this]
  | none =>
    rw [ho] at h
    have hno : firstOwner (s.busWrite a v).before a = none :=
      (firstOwner_write s.before a v a).trans (by rw [ho]; rfl)
    rw [firstAnswer_of_no_owner hno]
    cases hc : (s.coreRead a).isSome with
    | true => rw [show (s.busWrite a v).coreRead a = some v from s.coreRead_coreWrite_self h1 a v hc]
    | false =>
      have hc' : (s.busWrite a v).coreRead a = none :=
        Option.isSome_eq_false_iff.1 ((s.coreRead_isSome_coreWrite a v a).trans hc) |> Option.isNone_iff_eq_none.1
      rw [hc']
      cases ho' : firstOwner s.after a with
      | none => simp [hc, ho'] at h
      | some k =>
        rw [ho'] at h
        simp only [hc, Bool.false_or] at h
        have := firstAnswer_write_self ho' h h3 v s.cycle f
        rw [show firstAnswer (s.busWrite a v).after (s.busWrite a v).cycle f a = some v from this]

/-- At storage an opcode fetch and a data read agree. -/
theorem firstAnswer_fetch {ks : List Component} {a : Word} (h : ∀ k, firstOwner ks a = some k → k.isRam = true) (c : Nat) :
    firstAnswer ks c true a = firstAnswer ks c false a := by
  induction ks with
  | nil => rfl
  | cons k rest ih =>
    have h' := h
    simp only [firstOwner_cons] at h'
    cases ho : k.owns a with
    | true =>
      have hk := h' k (by simp [ho])
      cases k with
      | ram first last cells => simp only [firstAnswer, Component.read, ho, if_true]
      | rom first last cells => simp [Component.isRam] at hk
      | device id first last => simp [Component.isRam] at hk
    | false =>
      simp only [firstAnswer, Component.read_of_not_owns ho]
      exact ih (fun k hk => h' k (by simpa [ho] using hk))

/-! ### The data operations -/

theorem State.byteAt_note (s : State) (x : BusAccess) (a : Word) : (s.note x).byteAt a = s.byteAt a :=
  s.note_busRead x false a

/-- What one write of CORE does to a data read elsewhere. -/
theorem State.byteAt_memWrite_of_ne (s : State) {a x : Word} (h : x ≠ a) (v : Byte) :
    (s.memWrite a v).byteAt x = s.byteAt x :=
  (State.note_busRead _ _ _ _).trans (s.busRead_busWrite_of_ne h v false)

/-- What one write of CORE does to a data read of the same storage. -/
theorem State.byteAt_memWrite_self {s : State} (hwf : s.memWf = true) {a : Word} (h : s.storageAt a = true) (v : Byte) :
    (s.memWrite a v).byteAt a = v :=
  (State.note_busRead _ _ _ _).trans (State.busRead_busWrite_self hwf h v false)

@[simp] theorem State.memWf_note (s : State) (x : BusAccess) : (s.note x).memWf = s.memWf := rfl

@[simp] theorem State.storageAt_note (s : State) (x : BusAccess) (a : Word) : (s.note x).storageAt a = s.storageAt a := rfl

theorem State.memWf_memWrite {s : State} (h : s.memWf = true) (a : Word) (v : Byte) : (s.memWrite a v).memWf = true :=
  State.memWf_busWrite h a v

@[simp] theorem State.storageAt_memWrite (s : State) (a : Word) (v : Byte) (x : Word) :
    (s.memWrite a v).storageAt x = s.storageAt x := s.storageAt_busWrite a v x

/-- All a 16-bit store does: two broadcast writes, the low byte first (R111). -/
theorem State.memWrite16_eq (s : State) (a v : Word) :
    s.memWrite16 a v = { (s.busWrite a (Bits.low v)).busWrite (a + 1) (Bits.high v) with
      accesses := s.accesses ++ [.write a (Bits.low v)] ++ [.write (a + 1) (Bits.high v)] } := rfl

/-- All that a read and then a write of one byte do. -/
theorem State.memRead_memWrite_eq (s : State) (a : Word) (v : Byte) :
    (s.memRead a).2.memWrite a v = { s.busWrite a v with
      accesses := s.accesses ++ [.read a (s.byteAt a)] ++ [.write a v] } := rfl

/-- All that a read-modify-write of the byte at HL does to the state: one write there, after one read (R355, R405). -/
theorem State.rd8_wr8_atHL (s : State) (v : Byte) :
    (s.rd8 .atHL).2.wr8 .atHL v = { s.busWrite (s.pair .HL) v with
      accesses := s.accesses ++ [.read (s.pair .HL) (s.byteAt (s.pair .HL))] ++ [.write (s.pair .HL) v] } := rfl

/-! ### The stack -/

/-- All a push does: two broadcast writes, the high byte first, and SP two lower (R305). -/
theorem State.push16_eq (s : State) (v : Word) :
    s.push16 v = { (s.busWrite (s.sp - 1) (Bits.high v)).busWrite (s.sp - 1 - 1) (Bits.low v) with
      sp := s.sp - 1 - 1
      accesses := s.accesses ++ [.write (s.sp - 1) (Bits.high v)] ++ [.write (s.sp - 1 - 1) (Bits.low v)] } := rfl

/-- All a pop does: two reads, the low byte first, and SP two higher (R306). -/
theorem State.pop16_eq (s : State) :
    s.pop16 = (Bits.make16 (s.byteAt (s.sp + 1)) (s.byteAt s.sp),
      { s with
        sp := s.sp + 1 + 1
        accesses := s.accesses ++ [.read s.sp (s.byteAt s.sp)] ++ [.read (s.sp + 1) (s.byteAt (s.sp + 1))] }) := rfl

/-- All a return from an interrupt does: a pop into PC, IME set, the cost charged (R459). -/
theorem State.returnFromInterrupt_eq (s : State) (k : Nat) :
    s.returnFromInterrupt k = { s with
      pc := Bits.make16 (s.byteAt (s.sp + 1)) (s.byteAt s.sp)
      sp := s.sp + 1 + 1
      wait := k - 1
      ime := true
      accesses := s.accesses ++ [.read s.sp (s.byteAt s.sp)] ++ [.read (s.sp + 1) (s.byteAt (s.sp + 1))] } := rfl

theorem make16_getLsbD (h l : Byte) (i : Nat) :
    (Bits.make16 h l).getLsbD i = if i < 8 then l.getLsbD i else h.getLsbD (i - 8) := by
  have := BitVec.getLsbD_append (x := h) (y := l) (i := i)
  rw [show (Bits.make16 h l).getLsbD i = (h ++ l).getLsbD i from rfl, this]

theorem make16_high_low (w : Word) : Bits.make16 (Bits.high w) (Bits.low w) = w := by
  apply BitVec.eq_of_getLsbD_eq
  intro i hi
  rw [make16_getLsbD]
  simp only [Bits.high, Bits.low, Bits.extract, Bits.clip, BitVec.getLsbD_setWidth, BitVec.getLsbD_extractLsb']
  split
  · next h => simp [h]
  · next h =>
    rw [show 8 + (i - 8) = i by omega]
    simp [show i - 8 < 8 by omega]

theorem high_make16 (h l : Byte) : Bits.high (Bits.make16 h l) = h := by
  apply BitVec.eq_of_getLsbD_eq
  intro i hi
  simp only [Bits.high, Bits.extract, BitVec.getLsbD_extractLsb', make16_getLsbD]
  simp [hi]

theorem low_make16 (h l : Byte) : Bits.low (Bits.make16 h l) = l := by
  apply BitVec.eq_of_getLsbD_eq
  intro i hi
  simp only [Bits.low, Bits.clip, BitVec.getLsbD_setWidth, make16_getLsbD]
  simp [hi]

theorem word_add_neg_one (a : Word) : a + (-1) = a - 1 := (BitVec.sub_eq_add_neg a 1).symm

theorem word_sub_one_sub_one (a : Word) : a - 1 - 1 = a - 2 := by
  rw [BitVec.sub_sub]
  rfl

theorem word_add_one_add_one (a : Word) : a + 1 + 1 = a + 2 := by
  rw [BitVec.add_assoc]
  rfl

theorem word_sub_one_ne (a : Word) : a - 1 ≠ a := by
  intro h
  have := congrArg BitVec.toNat h
  simp only [BitVec.toNat_sub] at this
  have := a.isLt
  simp at *

/-- After a push both stack bytes read back, if they lie in storage. -/
theorem State.byteAt_push16 {s : State} (hwf : s.memWf = true) (h1 : s.storageAt (s.sp - 1) = true)
    (h2 : s.storageAt (s.sp - 1 - 1) = true) (v : Word) :
    (s.push16 v).byteAt (s.sp - 1) = Bits.high v ∧ (s.push16 v).byteAt (s.sp - 1 - 1) = Bits.low v := by
  have e : ∀ a, (s.push16 v).byteAt a =
      ((s.busWrite (s.sp - 1) (Bits.high v)).busWrite (s.sp - 1 - 1) (Bits.low v)).byteAt a := fun a => rfl
  rw [e, e]
  constructor
  · rw [show ((s.busWrite (s.sp - 1) (Bits.high v)).busWrite (s.sp - 1 - 1) (Bits.low v)).byteAt (s.sp - 1) =
      (s.busWrite (s.sp - 1) (Bits.high v)).byteAt (s.sp - 1) from
        State.busRead_busWrite_of_ne _ (Ne.symm (word_sub_one_ne _)) _ _]
    exact State.busRead_busWrite_self hwf h1 _ _
  · exact State.busRead_busWrite_self (State.memWf_busWrite hwf _ _) (by simpa using h2) _ _

/-- A pop straight after a push gives the value back, if the two bytes lie in storage (R306). -/
theorem State.pop16_push16 {s : State} (hwf : s.memWf = true) (h1 : s.storageAt (s.sp - 1) = true)
    (h2 : s.storageAt (s.sp - 1 - 1) = true) (v : Word) :
    (s.push16 v).pop16.1 = v ∧ (s.push16 v).pop16.2.sp = s.sp := by
  have hb := State.byteAt_push16 hwf h1 h2 v
  have e1 : (s.push16 v).sp = s.sp - 1 - 1 := rfl
  have e2 : (s.push16 v).sp + 1 = s.sp - 1 := by rw [e1]; simp
  constructor
  · rw [State.pop16_fst, e2, e1, hb.1, hb.2, make16_high_low]
  · rw [State.pop16_sp, e2]; simp

end Sys2Proof.Machine
end

