-- ==== Sys2Proof/Laws/Flags.lean ====
section
/-! SUPPORT. The flags byte and the flag-combination helper. -/

namespace Sys2Proof.Machine

/-- Bits 3..0 of a flags byte are zero (R56). -/
@[simp] theorem Flags.toByte_mask (f : Flags) : f.toByte &&& 0xF0 = f.toByte := by
  obtain ⟨z, n, h, c⟩ := f
  cases z <;> cases n <;> cases h <;> cases c <;> rfl

theorem Flags.toByte_low (f : Flags) : f.toByte &&& 0x0F = 0 := by
  obtain ⟨z, n, h, c⟩ := f
  cases z <;> cases n <;> cases h <;> cases c <;> rfl

@[simp] theorem Flags.test_toByte_7 (f : Flags) : Bits.test f.toByte 7 = f.z := by
  obtain ⟨z, n, h, c⟩ := f
  cases z <;> cases n <;> cases h <;> cases c <;> rfl

@[simp] theorem Flags.test_toByte_6 (f : Flags) : Bits.test f.toByte 6 = f.n := by
  obtain ⟨z, n, h, c⟩ := f
  cases z <;> cases n <;> cases h <;> cases c <;> rfl

@[simp] theorem Flags.test_toByte_5 (f : Flags) : Bits.test f.toByte 5 = f.h := by
  obtain ⟨z, n, h, c⟩ := f
  cases z <;> cases n <;> cases h <;> cases c <;> rfl

@[simp] theorem Flags.test_toByte_4 (f : Flags) : Bits.test f.toByte 4 = f.c := by
  obtain ⟨z, n, h, c⟩ := f
  cases z <;> cases n <;> cases h <;> cases c <;> rfl

/-- A flags byte holds the flags it was made of. -/
@[simp] theorem Flags.ofByte_toByte (f : Flags) : Flags.ofByte f.toByte = f := by
  obtain ⟨z, n, h, c⟩ := f
  cases z <;> cases n <;> cases h <;> cases c <;> rfl

/-- All that the flag-combination helper does (R202): F takes the chosen flags, and nothing else changes. -/
theorem State.setFlags_eq (s : State) (z n h c : FlagSel) :
    s.setFlags z n h c = { s with regs := { s.regs with
      f := Flags.toByte
        { z := z.pick (Bits.test s.regs.f 7)
          n := n.pick (Bits.test s.regs.f 6)
          h := h.pick (Bits.test s.regs.f 5)
          c := c.pick (Bits.test s.regs.f 4) } } } := by
  show { s with regs := s.regs.set .F _ } = _
  simp only [RegFile.set, Flags.toByte_mask]
  rfl

theorem State.setFlags_regs (s : State) (z n h c : FlagSel) :
    (s.setFlags z n h c).regs = { s.regs with
      f := Flags.toByte
        { z := z.pick (Bits.test s.regs.f 7)
          n := n.pick (Bits.test s.regs.f 6)
          h := h.pick (Bits.test s.regs.f 5)
          c := c.pick (Bits.test s.regs.f 4) } } := by rw [State.setFlags_eq]

/-- A write of an operand register leaves F alone (R55). -/
@[simp] theorem RegFile.set_regOf_f (rf : RegFile) (r : Reg8) (v : Byte) : (rf.set (regOf r) v).f = rf.f := by
  cases r <;> rfl

/-- All that an accumulator operation does (R218): F takes the function's flags, and A its value but for `CP`. -/
theorem accumulate_eq (op : AluOp) (y : Byte) (s : State) :
    accumulate op y s =
      { s with regs := { s.regs with
          a := if op = .CP then s.regs.a else (aluApply op s.regs.a y (Bits.test s.regs.f 4)).value
          f := (aluApply op s.regs.a y (Bits.test s.regs.f 4)).flags.toByte } } := by
  cases op <;> (simp only [accumulate, State.setFlags_eq]; rfl)

/-- `set(bits, i, v)` replaces the one bit (R12). -/
theorem Bits.test_set (v : Byte) (u : BitVec 3) (b : Bool) (j : Nat) (hj : j < 8) :
    Bits.test (Bits.set v u.toNat b) j = if j = u.toNat then b else Bits.test v j := by
  have hu := u.isLt
  cases b <;> simp [Bits.test, Bits.set, hj] <;> by_cases h : j = u.toNat <;> simp [h]

end Sys2Proof.Machine
end

