-- ==== Sys2Proof/Laws/Forms.lean ====
section
/-! SUPPORT. The meaning of a row of the opcode table is the meaning of its form: what is proved about the seventy-odd
forms holds for the 511 constructors of `Instr`. -/

namespace Sys2Proof.Laws

open Sys2Proof.Machine

/-- The meaning of a form over its operands. -/
def execForm (f : Form) (s : State) : Result :=
  match f with
  | .ldR8R8 d r => ldR8R8 d r s
  | .ldR8N8 d n => ldR8N8 d n s
  | .ldR8HL d => ldR8HL d s
  | .ldHLR8 r => ldHLR8 r s
  | .ldHLN8 n => ldHLN8 n s
  | .ldABC => ldABC s
  | .ldADE => ldADE s
  | .ldBCA => ldBCA s
  | .ldDEA => ldDEA s
  | .ldAN16 w => ldAN16 w s
  | .ldN16A w => ldN16A w s
  | .ldhAN8 n => ldhAN8 n s
  | .ldhN8A n => ldhN8A n s
  | .ldhAC => ldhAC s
  | .ldhCA => ldhCA s
  | .ldAHLInc => ldAHLInc s
  | .ldAHLDec => ldAHLDec s
  | .ldHLIncA => ldHLIncA s
  | .ldHLDecA => ldHLDecA s
  | .ldR16N16 p w => ldR16N16 p w s
  | .ldN16SP w => ldN16SP w s
  | .ldSPHL => ldSPHL s
  | .push q => push q s
  | .pop q => pop q s
  | .aluR8 op r => aluR8 op r s
  | .aluHL op => aluHL op s
  | .aluN8 op n => aluN8 op n s
  | .incR8 d => incR8 d s
  | .incHL => incHL s
  | .decR8 d => decR8 d s
  | .decHL => decHL s
  | .daa => daa s
  | .cpl => cpl s
  | .scf => scf s
  | .ccf => ccf s
  | .addHLR16 p => addHLR16 p s
  | .incR16 p => incR16 p s
  | .decR16 p => decR16 p s
  | .addSPE8 e => addSPE8 e s
  | .ldHLSPE8 e => ldHLSPE8 e s
  | .accRot op => accRot op s
  | .shiftR8 op r => shiftR8 op r s
  | .shiftHL op => shiftHL op s
  | .bitR8 u r => bitR8 u r s
  | .bitHL u => bitHL u s
  | .resR8 u r => resR8 u r s
  | .resHL u => resHL u s
  | .setR8 u r => setR8 u r s
  | .setHL u => setHL u s
  | .jpN16 w => jpN16 w s
  | .jpCC c w => jpCC c w s
  | .jpHL => jpHL s
  | .jrE8 e => jrE8 e s
  | .jrCC c e => jrCC c e s
  | .callN16 w => callN16 w s
  | .callCC c w => callCC c w s
  | .ret => ret s
  | .retCC c => retCC c s
  | .reti => reti s
  | .rst v => rst v s
  | .nop => nop s
  | .halt => halt s
  | .stop => stop s
  | .di => di s
  | .ei => ei s
  | .illegal op => illegal op s

/-- Every row's meaning is its form's meaning. -/
theorem exec_eq_execForm (i : Instr) (s : State) : exec i s = execForm i.form s := by
  cases i <;> rfl

end Sys2Proof.Laws
end

