-- ==== Sys2Proof/Laws/Frames.lean ====
section
/-! SUPPORT. The three ways an instruction treats memory, said once: no store, one store, two stores. A frame of an
instruction cites the one of its shape. -/

namespace Sys2Proof.Laws

open Sys2Proof.Machine

/-- A form that stores nothing: every byte reads as before. -/
theorem byteAt_of_no_store {s t : State} (hb : t.before = s.before) (ha : t.after = s.after) (hie : t.ie = s.ie)
    (hif : t.ifr = s.ifr) (hh : t.hram = s.hram) (hc : t.cycle = s.cycle) :
    ∀ a, a ∉ ([] : List Word) → t.byteAt a = s.byteAt a :=
  fun a _ => State.busRead_congr hb ha hie hif hh hc false a

/-- A form that stores one byte: every byte at another address reads as before. -/
theorem byteAt_of_one_store {s t : State} {w : Word} {v : Byte} (h : ∀ a, t.byteAt a = (s.busWrite w v).byteAt a) :
    ∀ a, a ∉ [w] → t.byteAt a = s.byteAt a :=
  fun a ha => (h a).trans (State.busRead_busWrite_of_ne s (by simpa using ha) v false)

/-- A form that stores two bytes: every byte at neither address reads as before. -/
theorem byteAt_of_two_stores {s t : State} {w w' : Word} {v v' : Byte}
    (h : ∀ a, t.byteAt a = ((s.busWrite w v).busWrite w' v').byteAt a) :
    ∀ a, a ∉ [w, w'] → t.byteAt a = s.byteAt a := by
  intro a ha
  simp only [List.mem_cons, List.not_mem_nil, or_false, not_or] at ha
  exact (h a).trans ((State.busRead_busWrite_of_ne _ ha.2 v' false).trans (State.busRead_busWrite_of_ne s ha.1 v false))

end Sys2Proof.Laws
end

