-- ==== Sys2Proof/Laws/PerInstr.lean ====
section
/-! SUPPORT. One fact stated of every instruction as syntax, one lemma for each constructor: its encoding has the length
that R158 gives it, and that is one, two or three bytes. -/

namespace Sys2Proof.Laws

/-- An instruction's encoding is as long as R158 says, and one to three bytes. -/
def EncodedLength.Statement (i : Instr) : Prop := (encode i).length = i.length ∧ 1 ≤ i.length ∧ i.length ≤ 3

/-- The same of a form. -/
theorem encodedLength_form (f : Form) : f.encode.length = f.length ∧ 1 ≤ f.length ∧ f.length ≤ 3 := by
  cases f <;> exact ⟨rfl, Nat.le_of_ble_eq_true rfl, Nat.le_of_ble_eq_true rfl⟩

theorem EncodedLength.nop : EncodedLength.Statement (.nop) := encodedLength_form _
theorem EncodedLength.ld_BC_n16 (n16 : Word) : EncodedLength.Statement (.ld_BC_n16 n16) := encodedLength_form _
theorem EncodedLength.ld_mBC_A : EncodedLength.Statement (.ld_mBC_A) := encodedLength_form _
theorem EncodedLength.inc_BC : EncodedLength.Statement (.inc_BC) := encodedLength_form _
theorem EncodedLength.inc_B : EncodedLength.Statement (.inc_B) := encodedLength_form _
theorem EncodedLength.dec_B : EncodedLength.Statement (.dec_B) := encodedLength_form _
theorem EncodedLength.ld_B_n8 (n8 : Byte) : EncodedLength.Statement (.ld_B_n8 n8) := encodedLength_form _
theorem EncodedLength.rlca : EncodedLength.Statement (.rlca) := encodedLength_form _
theorem EncodedLength.ld_mN16_SP (n16 : Word) : EncodedLength.Statement (.ld_mN16_SP n16) := encodedLength_form _
theorem EncodedLength.add_HL_BC : EncodedLength.Statement (.add_HL_BC) := encodedLength_form _
theorem EncodedLength.ld_A_mBC : EncodedLength.Statement (.ld_A_mBC) := encodedLength_form _
theorem EncodedLength.dec_BC : EncodedLength.Statement (.dec_BC) := encodedLength_form _
theorem EncodedLength.inc_C : EncodedLength.Statement (.inc_C) := encodedLength_form _
theorem EncodedLength.dec_C : EncodedLength.Statement (.dec_C) := encodedLength_form _
theorem EncodedLength.ld_C_n8 (n8 : Byte) : EncodedLength.Statement (.ld_C_n8 n8) := encodedLength_form _
theorem EncodedLength.rrca : EncodedLength.Statement (.rrca) := encodedLength_form _
theorem EncodedLength.stop : EncodedLength.Statement (.stop) := encodedLength_form _
theorem EncodedLength.ld_DE_n16 (n16 : Word) : EncodedLength.Statement (.ld_DE_n16 n16) := encodedLength_form _
theorem EncodedLength.ld_mDE_A : EncodedLength.Statement (.ld_mDE_A) := encodedLength_form _
theorem EncodedLength.inc_DE : EncodedLength.Statement (.inc_DE) := encodedLength_form _
theorem EncodedLength.inc_D : EncodedLength.Statement (.inc_D) := encodedLength_form _
theorem EncodedLength.dec_D : EncodedLength.Statement (.dec_D) := encodedLength_form _
theorem EncodedLength.ld_D_n8 (n8 : Byte) : EncodedLength.Statement (.ld_D_n8 n8) := encodedLength_form _
theorem EncodedLength.rla : EncodedLength.Statement (.rla) := encodedLength_form _
theorem EncodedLength.jr_e8 (e8 : Byte) : EncodedLength.Statement (.jr_e8 e8) := encodedLength_form _
theorem EncodedLength.add_HL_DE : EncodedLength.Statement (.add_HL_DE) := encodedLength_form _
theorem EncodedLength.ld_A_mDE : EncodedLength.Statement (.ld_A_mDE) := encodedLength_form _
theorem EncodedLength.dec_DE : EncodedLength.Statement (.dec_DE) := encodedLength_form _
theorem EncodedLength.inc_E : EncodedLength.Statement (.inc_E) := encodedLength_form _
theorem EncodedLength.dec_E : EncodedLength.Statement (.dec_E) := encodedLength_form _
theorem EncodedLength.ld_E_n8 (n8 : Byte) : EncodedLength.Statement (.ld_E_n8 n8) := encodedLength_form _
theorem EncodedLength.rra : EncodedLength.Statement (.rra) := encodedLength_form _
theorem EncodedLength.jr_NZ_e8 (e8 : Byte) : EncodedLength.Statement (.jr_NZ_e8 e8) := encodedLength_form _
theorem EncodedLength.ld_HL_n16 (n16 : Word) : EncodedLength.Statement (.ld_HL_n16 n16) := encodedLength_form _
theorem EncodedLength.ld_mHLinc_A : EncodedLength.Statement (.ld_mHLinc_A) := encodedLength_form _
theorem EncodedLength.inc_HL : EncodedLength.Statement (.inc_HL) := encodedLength_form _
theorem EncodedLength.inc_H : EncodedLength.Statement (.inc_H) := encodedLength_form _
theorem EncodedLength.dec_H : EncodedLength.Statement (.dec_H) := encodedLength_form _
theorem EncodedLength.ld_H_n8 (n8 : Byte) : EncodedLength.Statement (.ld_H_n8 n8) := encodedLength_form _
theorem EncodedLength.daa : EncodedLength.Statement (.daa) := encodedLength_form _
theorem EncodedLength.jr_Z_e8 (e8 : Byte) : EncodedLength.Statement (.jr_Z_e8 e8) := encodedLength_form _
theorem EncodedLength.add_HL_HL : EncodedLength.Statement (.add_HL_HL) := encodedLength_form _
theorem EncodedLength.ld_A_mHLinc : EncodedLength.Statement (.ld_A_mHLinc) := encodedLength_form _
theorem EncodedLength.dec_HL : EncodedLength.Statement (.dec_HL) := encodedLength_form _
theorem EncodedLength.inc_L : EncodedLength.Statement (.inc_L) := encodedLength_form _
theorem EncodedLength.dec_L : EncodedLength.Statement (.dec_L) := encodedLength_form _
theorem EncodedLength.ld_L_n8 (n8 : Byte) : EncodedLength.Statement (.ld_L_n8 n8) := encodedLength_form _
theorem EncodedLength.cpl : EncodedLength.Statement (.cpl) := encodedLength_form _
theorem EncodedLength.jr_NC_e8 (e8 : Byte) : EncodedLength.Statement (.jr_NC_e8 e8) := encodedLength_form _
theorem EncodedLength.ld_SP_n16 (n16 : Word) : EncodedLength.Statement (.ld_SP_n16 n16) := encodedLength_form _
theorem EncodedLength.ld_mHLdec_A : EncodedLength.Statement (.ld_mHLdec_A) := encodedLength_form _
theorem EncodedLength.inc_SP : EncodedLength.Statement (.inc_SP) := encodedLength_form _
theorem EncodedLength.inc_mHL : EncodedLength.Statement (.inc_mHL) := encodedLength_form _
theorem EncodedLength.dec_mHL : EncodedLength.Statement (.dec_mHL) := encodedLength_form _
theorem EncodedLength.ld_mHL_n8 (n8 : Byte) : EncodedLength.Statement (.ld_mHL_n8 n8) := encodedLength_form _
theorem EncodedLength.scf : EncodedLength.Statement (.scf) := encodedLength_form _
theorem EncodedLength.jr_C_e8 (e8 : Byte) : EncodedLength.Statement (.jr_C_e8 e8) := encodedLength_form _
theorem EncodedLength.add_HL_SP : EncodedLength.Statement (.add_HL_SP) := encodedLength_form _
theorem EncodedLength.ld_A_mHLdec : EncodedLength.Statement (.ld_A_mHLdec) := encodedLength_form _
theorem EncodedLength.dec_SP : EncodedLength.Statement (.dec_SP) := encodedLength_form _
theorem EncodedLength.inc_A : EncodedLength.Statement (.inc_A) := encodedLength_form _
theorem EncodedLength.dec_A : EncodedLength.Statement (.dec_A) := encodedLength_form _
theorem EncodedLength.ld_A_n8 (n8 : Byte) : EncodedLength.Statement (.ld_A_n8 n8) := encodedLength_form _
theorem EncodedLength.ccf : EncodedLength.Statement (.ccf) := encodedLength_form _
theorem EncodedLength.ld_B_B : EncodedLength.Statement (.ld_B_B) := encodedLength_form _
theorem EncodedLength.ld_B_C : EncodedLength.Statement (.ld_B_C) := encodedLength_form _
theorem EncodedLength.ld_B_D : EncodedLength.Statement (.ld_B_D) := encodedLength_form _
theorem EncodedLength.ld_B_E : EncodedLength.Statement (.ld_B_E) := encodedLength_form _
theorem EncodedLength.ld_B_H : EncodedLength.Statement (.ld_B_H) := encodedLength_form _
theorem EncodedLength.ld_B_L : EncodedLength.Statement (.ld_B_L) := encodedLength_form _
theorem EncodedLength.ld_B_mHL : EncodedLength.Statement (.ld_B_mHL) := encodedLength_form _
theorem EncodedLength.ld_B_A : EncodedLength.Statement (.ld_B_A) := encodedLength_form _
theorem EncodedLength.ld_C_B : EncodedLength.Statement (.ld_C_B) := encodedLength_form _
theorem EncodedLength.ld_C_C : EncodedLength.Statement (.ld_C_C) := encodedLength_form _
theorem EncodedLength.ld_C_D : EncodedLength.Statement (.ld_C_D) := encodedLength_form _
theorem EncodedLength.ld_C_E : EncodedLength.Statement (.ld_C_E) := encodedLength_form _
theorem EncodedLength.ld_C_H : EncodedLength.Statement (.ld_C_H) := encodedLength_form _
theorem EncodedLength.ld_C_L : EncodedLength.Statement (.ld_C_L) := encodedLength_form _
theorem EncodedLength.ld_C_mHL : EncodedLength.Statement (.ld_C_mHL) := encodedLength_form _
theorem EncodedLength.ld_C_A : EncodedLength.Statement (.ld_C_A) := encodedLength_form _
theorem EncodedLength.ld_D_B : EncodedLength.Statement (.ld_D_B) := encodedLength_form _
theorem EncodedLength.ld_D_C : EncodedLength.Statement (.ld_D_C) := encodedLength_form _
theorem EncodedLength.ld_D_D : EncodedLength.Statement (.ld_D_D) := encodedLength_form _
theorem EncodedLength.ld_D_E : EncodedLength.Statement (.ld_D_E) := encodedLength_form _
theorem EncodedLength.ld_D_H : EncodedLength.Statement (.ld_D_H) := encodedLength_form _
theorem EncodedLength.ld_D_L : EncodedLength.Statement (.ld_D_L) := encodedLength_form _
theorem EncodedLength.ld_D_mHL : EncodedLength.Statement (.ld_D_mHL) := encodedLength_form _
theorem EncodedLength.ld_D_A : EncodedLength.Statement (.ld_D_A) := encodedLength_form _
theorem EncodedLength.ld_E_B : EncodedLength.Statement (.ld_E_B) := encodedLength_form _
theorem EncodedLength.ld_E_C : EncodedLength.Statement (.ld_E_C) := encodedLength_form _
theorem EncodedLength.ld_E_D : EncodedLength.Statement (.ld_E_D) := encodedLength_form _
theorem EncodedLength.ld_E_E : EncodedLength.Statement (.ld_E_E) := encodedLength_form _
theorem EncodedLength.ld_E_H : EncodedLength.Statement (.ld_E_H) := encodedLength_form _
theorem EncodedLength.ld_E_L : EncodedLength.Statement (.ld_E_L) := encodedLength_form _
theorem EncodedLength.ld_E_mHL : EncodedLength.Statement (.ld_E_mHL) := encodedLength_form _
theorem EncodedLength.ld_E_A : EncodedLength.Statement (.ld_E_A) := encodedLength_form _
theorem EncodedLength.ld_H_B : EncodedLength.Statement (.ld_H_B) := encodedLength_form _
theorem EncodedLength.ld_H_C : EncodedLength.Statement (.ld_H_C) := encodedLength_form _
theorem EncodedLength.ld_H_D : EncodedLength.Statement (.ld_H_D) := encodedLength_form _
theorem EncodedLength.ld_H_E : EncodedLength.Statement (.ld_H_E) := encodedLength_form _
theorem EncodedLength.ld_H_H : EncodedLength.Statement (.ld_H_H) := encodedLength_form _
theorem EncodedLength.ld_H_L : EncodedLength.Statement (.ld_H_L) := encodedLength_form _
theorem EncodedLength.ld_H_mHL : EncodedLength.Statement (.ld_H_mHL) := encodedLength_form _
theorem EncodedLength.ld_H_A : EncodedLength.Statement (.ld_H_A) := encodedLength_form _
theorem EncodedLength.ld_L_B : EncodedLength.Statement (.ld_L_B) := encodedLength_form _
theorem EncodedLength.ld_L_C : EncodedLength.Statement (.ld_L_C) := encodedLength_form _
theorem EncodedLength.ld_L_D : EncodedLength.Statement (.ld_L_D) := encodedLength_form _
theorem EncodedLength.ld_L_E : EncodedLength.Statement (.ld_L_E) := encodedLength_form _
theorem EncodedLength.ld_L_H : EncodedLength.Statement (.ld_L_H) := encodedLength_form _
theorem EncodedLength.ld_L_L : EncodedLength.Statement (.ld_L_L) := encodedLength_form _
theorem EncodedLength.ld_L_mHL : EncodedLength.Statement (.ld_L_mHL) := encodedLength_form _
theorem EncodedLength.ld_L_A : EncodedLength.Statement (.ld_L_A) := encodedLength_form _
theorem EncodedLength.ld_mHL_B : EncodedLength.Statement (.ld_mHL_B) := encodedLength_form _
theorem EncodedLength.ld_mHL_C : EncodedLength.Statement (.ld_mHL_C) := encodedLength_form _
theorem EncodedLength.ld_mHL_D : EncodedLength.Statement (.ld_mHL_D) := encodedLength_form _
theorem EncodedLength.ld_mHL_E : EncodedLength.Statement (.ld_mHL_E) := encodedLength_form _
theorem EncodedLength.ld_mHL_H : EncodedLength.Statement (.ld_mHL_H) := encodedLength_form _
theorem EncodedLength.ld_mHL_L : EncodedLength.Statement (.ld_mHL_L) := encodedLength_form _
theorem EncodedLength.halt : EncodedLength.Statement (.halt) := encodedLength_form _
theorem EncodedLength.ld_mHL_A : EncodedLength.Statement (.ld_mHL_A) := encodedLength_form _
theorem EncodedLength.ld_A_B : EncodedLength.Statement (.ld_A_B) := encodedLength_form _
theorem EncodedLength.ld_A_C : EncodedLength.Statement (.ld_A_C) := encodedLength_form _
theorem EncodedLength.ld_A_D : EncodedLength.Statement (.ld_A_D) := encodedLength_form _
theorem EncodedLength.ld_A_E : EncodedLength.Statement (.ld_A_E) := encodedLength_form _
theorem EncodedLength.ld_A_H : EncodedLength.Statement (.ld_A_H) := encodedLength_form _
theorem EncodedLength.ld_A_L : EncodedLength.Statement (.ld_A_L) := encodedLength_form _
theorem EncodedLength.ld_A_mHL : EncodedLength.Statement (.ld_A_mHL) := encodedLength_form _
theorem EncodedLength.ld_A_A : EncodedLength.Statement (.ld_A_A) := encodedLength_form _
theorem EncodedLength.add_A_B : EncodedLength.Statement (.add_A_B) := encodedLength_form _
theorem EncodedLength.add_A_C : EncodedLength.Statement (.add_A_C) := encodedLength_form _
theorem EncodedLength.add_A_D : EncodedLength.Statement (.add_A_D) := encodedLength_form _
theorem EncodedLength.add_A_E : EncodedLength.Statement (.add_A_E) := encodedLength_form _
theorem EncodedLength.add_A_H : EncodedLength.Statement (.add_A_H) := encodedLength_form _
theorem EncodedLength.add_A_L : EncodedLength.Statement (.add_A_L) := encodedLength_form _
theorem EncodedLength.add_A_mHL : EncodedLength.Statement (.add_A_mHL) := encodedLength_form _
theorem EncodedLength.add_A_A : EncodedLength.Statement (.add_A_A) := encodedLength_form _
theorem EncodedLength.adc_A_B : EncodedLength.Statement (.adc_A_B) := encodedLength_form _
theorem EncodedLength.adc_A_C : EncodedLength.Statement (.adc_A_C) := encodedLength_form _
theorem EncodedLength.adc_A_D : EncodedLength.Statement (.adc_A_D) := encodedLength_form _
theorem EncodedLength.adc_A_E : EncodedLength.Statement (.adc_A_E) := encodedLength_form _
theorem EncodedLength.adc_A_H : EncodedLength.Statement (.adc_A_H) := encodedLength_form _
theorem EncodedLength.adc_A_L : EncodedLength.Statement (.adc_A_L) := encodedLength_form _
theorem EncodedLength.adc_A_mHL : EncodedLength.Statement (.adc_A_mHL) := encodedLength_form _
theorem EncodedLength.adc_A_A : EncodedLength.Statement (.adc_A_A) := encodedLength_form _
theorem EncodedLength.sub_A_B : EncodedLength.Statement (.sub_A_B) := encodedLength_form _
theorem EncodedLength.sub_A_C : EncodedLength.Statement (.sub_A_C) := encodedLength_form _
theorem EncodedLength.sub_A_D : EncodedLength.Statement (.sub_A_D) := encodedLength_form _
theorem EncodedLength.sub_A_E : EncodedLength.Statement (.sub_A_E) := encodedLength_form _
theorem EncodedLength.sub_A_H : EncodedLength.Statement (.sub_A_H) := encodedLength_form _
theorem EncodedLength.sub_A_L : EncodedLength.Statement (.sub_A_L) := encodedLength_form _
theorem EncodedLength.sub_A_mHL : EncodedLength.Statement (.sub_A_mHL) := encodedLength_form _
theorem EncodedLength.sub_A_A : EncodedLength.Statement (.sub_A_A) := encodedLength_form _
theorem EncodedLength.sbc_A_B : EncodedLength.Statement (.sbc_A_B) := encodedLength_form _
theorem EncodedLength.sbc_A_C : EncodedLength.Statement (.sbc_A_C) := encodedLength_form _
theorem EncodedLength.sbc_A_D : EncodedLength.Statement (.sbc_A_D) := encodedLength_form _
theorem EncodedLength.sbc_A_E : EncodedLength.Statement (.sbc_A_E) := encodedLength_form _
theorem EncodedLength.sbc_A_H : EncodedLength.Statement (.sbc_A_H) := encodedLength_form _
theorem EncodedLength.sbc_A_L : EncodedLength.Statement (.sbc_A_L) := encodedLength_form _
theorem EncodedLength.sbc_A_mHL : EncodedLength.Statement (.sbc_A_mHL) := encodedLength_form _
theorem EncodedLength.sbc_A_A : EncodedLength.Statement (.sbc_A_A) := encodedLength_form _
theorem EncodedLength.and_A_B : EncodedLength.Statement (.and_A_B) := encodedLength_form _
theorem EncodedLength.and_A_C : EncodedLength.Statement (.and_A_C) := encodedLength_form _
theorem EncodedLength.and_A_D : EncodedLength.Statement (.and_A_D) := encodedLength_form _
theorem EncodedLength.and_A_E : EncodedLength.Statement (.and_A_E) := encodedLength_form _
theorem EncodedLength.and_A_H : EncodedLength.Statement (.and_A_H) := encodedLength_form _
theorem EncodedLength.and_A_L : EncodedLength.Statement (.and_A_L) := encodedLength_form _
theorem EncodedLength.and_A_mHL : EncodedLength.Statement (.and_A_mHL) := encodedLength_form _
theorem EncodedLength.and_A_A : EncodedLength.Statement (.and_A_A) := encodedLength_form _
theorem EncodedLength.xor_A_B : EncodedLength.Statement (.xor_A_B) := encodedLength_form _
theorem EncodedLength.xor_A_C : EncodedLength.Statement (.xor_A_C) := encodedLength_form _
theorem EncodedLength.xor_A_D : EncodedLength.Statement (.xor_A_D) := encodedLength_form _
theorem EncodedLength.xor_A_E : EncodedLength.Statement (.xor_A_E) := encodedLength_form _
theorem EncodedLength.xor_A_H : EncodedLength.Statement (.xor_A_H) := encodedLength_form _
theorem EncodedLength.xor_A_L : EncodedLength.Statement (.xor_A_L) := encodedLength_form _
theorem EncodedLength.xor_A_mHL : EncodedLength.Statement (.xor_A_mHL) := encodedLength_form _
theorem EncodedLength.xor_A_A : EncodedLength.Statement (.xor_A_A) := encodedLength_form _
theorem EncodedLength.or_A_B : EncodedLength.Statement (.or_A_B) := encodedLength_form _
theorem EncodedLength.or_A_C : EncodedLength.Statement (.or_A_C) := encodedLength_form _
theorem EncodedLength.or_A_D : EncodedLength.Statement (.or_A_D) := encodedLength_form _
theorem EncodedLength.or_A_E : EncodedLength.Statement (.or_A_E) := encodedLength_form _
theorem EncodedLength.or_A_H : EncodedLength.Statement (.or_A_H) := encodedLength_form _
theorem EncodedLength.or_A_L : EncodedLength.Statement (.or_A_L) := encodedLength_form _
theorem EncodedLength.or_A_mHL : EncodedLength.Statement (.or_A_mHL) := encodedLength_form _
theorem EncodedLength.or_A_A : EncodedLength.Statement (.or_A_A) := encodedLength_form _
theorem EncodedLength.cp_A_B : EncodedLength.Statement (.cp_A_B) := encodedLength_form _
theorem EncodedLength.cp_A_C : EncodedLength.Statement (.cp_A_C) := encodedLength_form _
theorem EncodedLength.cp_A_D : EncodedLength.Statement (.cp_A_D) := encodedLength_form _
theorem EncodedLength.cp_A_E : EncodedLength.Statement (.cp_A_E) := encodedLength_form _
theorem EncodedLength.cp_A_H : EncodedLength.Statement (.cp_A_H) := encodedLength_form _
theorem EncodedLength.cp_A_L : EncodedLength.Statement (.cp_A_L) := encodedLength_form _
theorem EncodedLength.cp_A_mHL : EncodedLength.Statement (.cp_A_mHL) := encodedLength_form _
theorem EncodedLength.cp_A_A : EncodedLength.Statement (.cp_A_A) := encodedLength_form _
theorem EncodedLength.ret_NZ : EncodedLength.Statement (.ret_NZ) := encodedLength_form _
theorem EncodedLength.pop_BC : EncodedLength.Statement (.pop_BC) := encodedLength_form _
theorem EncodedLength.jp_NZ_n16 (n16 : Word) : EncodedLength.Statement (.jp_NZ_n16 n16) := encodedLength_form _
theorem EncodedLength.jp_n16 (n16 : Word) : EncodedLength.Statement (.jp_n16 n16) := encodedLength_form _
theorem EncodedLength.call_NZ_n16 (n16 : Word) : EncodedLength.Statement (.call_NZ_n16 n16) := encodedLength_form _
theorem EncodedLength.push_BC : EncodedLength.Statement (.push_BC) := encodedLength_form _
theorem EncodedLength.add_A_n8 (n8 : Byte) : EncodedLength.Statement (.add_A_n8 n8) := encodedLength_form _
theorem EncodedLength.rst_00 : EncodedLength.Statement (.rst_00) := encodedLength_form _
theorem EncodedLength.ret_Z : EncodedLength.Statement (.ret_Z) := encodedLength_form _
theorem EncodedLength.ret : EncodedLength.Statement (.ret) := encodedLength_form _
theorem EncodedLength.jp_Z_n16 (n16 : Word) : EncodedLength.Statement (.jp_Z_n16 n16) := encodedLength_form _
theorem EncodedLength.call_Z_n16 (n16 : Word) : EncodedLength.Statement (.call_Z_n16 n16) := encodedLength_form _
theorem EncodedLength.call_n16 (n16 : Word) : EncodedLength.Statement (.call_n16 n16) := encodedLength_form _
theorem EncodedLength.adc_A_n8 (n8 : Byte) : EncodedLength.Statement (.adc_A_n8 n8) := encodedLength_form _
theorem EncodedLength.rst_08 : EncodedLength.Statement (.rst_08) := encodedLength_form _
theorem EncodedLength.ret_NC : EncodedLength.Statement (.ret_NC) := encodedLength_form _
theorem EncodedLength.pop_DE : EncodedLength.Statement (.pop_DE) := encodedLength_form _
theorem EncodedLength.jp_NC_n16 (n16 : Word) : EncodedLength.Statement (.jp_NC_n16 n16) := encodedLength_form _
theorem EncodedLength.illegal_D3 : EncodedLength.Statement (.illegal_D3) := encodedLength_form _
theorem EncodedLength.call_NC_n16 (n16 : Word) : EncodedLength.Statement (.call_NC_n16 n16) := encodedLength_form _
theorem EncodedLength.push_DE : EncodedLength.Statement (.push_DE) := encodedLength_form _
theorem EncodedLength.sub_A_n8 (n8 : Byte) : EncodedLength.Statement (.sub_A_n8 n8) := encodedLength_form _
theorem EncodedLength.rst_10 : EncodedLength.Statement (.rst_10) := encodedLength_form _
theorem EncodedLength.ret_C : EncodedLength.Statement (.ret_C) := encodedLength_form _
theorem EncodedLength.reti : EncodedLength.Statement (.reti) := encodedLength_form _
theorem EncodedLength.jp_C_n16 (n16 : Word) : EncodedLength.Statement (.jp_C_n16 n16) := encodedLength_form _
theorem EncodedLength.illegal_DB : EncodedLength.Statement (.illegal_DB) := encodedLength_form _
theorem EncodedLength.call_C_n16 (n16 : Word) : EncodedLength.Statement (.call_C_n16 n16) := encodedLength_form _
theorem EncodedLength.illegal_DD : EncodedLength.Statement (.illegal_DD) := encodedLength_form _
theorem EncodedLength.sbc_A_n8 (n8 : Byte) : EncodedLength.Statement (.sbc_A_n8 n8) := encodedLength_form _
theorem EncodedLength.rst_18 : EncodedLength.Statement (.rst_18) := encodedLength_form _
theorem EncodedLength.ldh_mN8_A (n8 : Byte) : EncodedLength.Statement (.ldh_mN8_A n8) := encodedLength_form _
theorem EncodedLength.pop_HL : EncodedLength.Statement (.pop_HL) := encodedLength_form _
theorem EncodedLength.ldh_mC_A : EncodedLength.Statement (.ldh_mC_A) := encodedLength_form _
theorem EncodedLength.illegal_E3 : EncodedLength.Statement (.illegal_E3) := encodedLength_form _
theorem EncodedLength.illegal_E4 : EncodedLength.Statement (.illegal_E4) := encodedLength_form _
theorem EncodedLength.push_HL : EncodedLength.Statement (.push_HL) := encodedLength_form _
theorem EncodedLength.and_A_n8 (n8 : Byte) : EncodedLength.Statement (.and_A_n8 n8) := encodedLength_form _
theorem EncodedLength.rst_20 : EncodedLength.Statement (.rst_20) := encodedLength_form _
theorem EncodedLength.add_SP_e8 (e8 : Byte) : EncodedLength.Statement (.add_SP_e8 e8) := encodedLength_form _
theorem EncodedLength.jp_HL : EncodedLength.Statement (.jp_HL) := encodedLength_form _
theorem EncodedLength.ld_mN16_A (n16 : Word) : EncodedLength.Statement (.ld_mN16_A n16) := encodedLength_form _
theorem EncodedLength.illegal_EB : EncodedLength.Statement (.illegal_EB) := encodedLength_form _
theorem EncodedLength.illegal_EC : EncodedLength.Statement (.illegal_EC) := encodedLength_form _
theorem EncodedLength.illegal_ED : EncodedLength.Statement (.illegal_ED) := encodedLength_form _
theorem EncodedLength.xor_A_n8 (n8 : Byte) : EncodedLength.Statement (.xor_A_n8 n8) := encodedLength_form _
theorem EncodedLength.rst_28 : EncodedLength.Statement (.rst_28) := encodedLength_form _
theorem EncodedLength.ldh_A_mN8 (n8 : Byte) : EncodedLength.Statement (.ldh_A_mN8 n8) := encodedLength_form _
theorem EncodedLength.pop_AF : EncodedLength.Statement (.pop_AF) := encodedLength_form _
theorem EncodedLength.ldh_A_mC : EncodedLength.Statement (.ldh_A_mC) := encodedLength_form _
theorem EncodedLength.di : EncodedLength.Statement (.di) := encodedLength_form _
theorem EncodedLength.illegal_F4 : EncodedLength.Statement (.illegal_F4) := encodedLength_form _
theorem EncodedLength.push_AF : EncodedLength.Statement (.push_AF) := encodedLength_form _
theorem EncodedLength.or_A_n8 (n8 : Byte) : EncodedLength.Statement (.or_A_n8 n8) := encodedLength_form _
theorem EncodedLength.rst_30 : EncodedLength.Statement (.rst_30) := encodedLength_form _
theorem EncodedLength.ld_HL_SPe8 (e8 : Byte) : EncodedLength.Statement (.ld_HL_SPe8 e8) := encodedLength_form _
theorem EncodedLength.ld_SP_HL : EncodedLength.Statement (.ld_SP_HL) := encodedLength_form _
theorem EncodedLength.ld_A_mN16 (n16 : Word) : EncodedLength.Statement (.ld_A_mN16 n16) := encodedLength_form _
theorem EncodedLength.ei : EncodedLength.Statement (.ei) := encodedLength_form _
theorem EncodedLength.illegal_FC : EncodedLength.Statement (.illegal_FC) := encodedLength_form _
theorem EncodedLength.illegal_FD : EncodedLength.Statement (.illegal_FD) := encodedLength_form _
theorem EncodedLength.cp_A_n8 (n8 : Byte) : EncodedLength.Statement (.cp_A_n8 n8) := encodedLength_form _
theorem EncodedLength.rst_38 : EncodedLength.Statement (.rst_38) := encodedLength_form _
theorem EncodedLength.rlc_B : EncodedLength.Statement (.rlc_B) := encodedLength_form _
theorem EncodedLength.rlc_C : EncodedLength.Statement (.rlc_C) := encodedLength_form _
theorem EncodedLength.rlc_D : EncodedLength.Statement (.rlc_D) := encodedLength_form _
theorem EncodedLength.rlc_E : EncodedLength.Statement (.rlc_E) := encodedLength_form _
theorem EncodedLength.rlc_H : EncodedLength.Statement (.rlc_H) := encodedLength_form _
theorem EncodedLength.rlc_L : EncodedLength.Statement (.rlc_L) := encodedLength_form _
theorem EncodedLength.rlc_mHL : EncodedLength.Statement (.rlc_mHL) := encodedLength_form _
theorem EncodedLength.rlc_A : EncodedLength.Statement (.rlc_A) := encodedLength_form _
theorem EncodedLength.rrc_B : EncodedLength.Statement (.rrc_B) := encodedLength_form _
theorem EncodedLength.rrc_C : EncodedLength.Statement (.rrc_C) := encodedLength_form _
theorem EncodedLength.rrc_D : EncodedLength.Statement (.rrc_D) := encodedLength_form _
theorem EncodedLength.rrc_E : EncodedLength.Statement (.rrc_E) := encodedLength_form _
theorem EncodedLength.rrc_H : EncodedLength.Statement (.rrc_H) := encodedLength_form _
theorem EncodedLength.rrc_L : EncodedLength.Statement (.rrc_L) := encodedLength_form _
theorem EncodedLength.rrc_mHL : EncodedLength.Statement (.rrc_mHL) := encodedLength_form _
theorem EncodedLength.rrc_A : EncodedLength.Statement (.rrc_A) := encodedLength_form _
theorem EncodedLength.rl_B : EncodedLength.Statement (.rl_B) := encodedLength_form _
theorem EncodedLength.rl_C : EncodedLength.Statement (.rl_C) := encodedLength_form _
theorem EncodedLength.rl_D : EncodedLength.Statement (.rl_D) := encodedLength_form _
theorem EncodedLength.rl_E : EncodedLength.Statement (.rl_E) := encodedLength_form _
theorem EncodedLength.rl_H : EncodedLength.Statement (.rl_H) := encodedLength_form _
theorem EncodedLength.rl_L : EncodedLength.Statement (.rl_L) := encodedLength_form _
theorem EncodedLength.rl_mHL : EncodedLength.Statement (.rl_mHL) := encodedLength_form _
theorem EncodedLength.rl_A : EncodedLength.Statement (.rl_A) := encodedLength_form _
theorem EncodedLength.rr_B : EncodedLength.Statement (.rr_B) := encodedLength_form _
theorem EncodedLength.rr_C : EncodedLength.Statement (.rr_C) := encodedLength_form _
theorem EncodedLength.rr_D : EncodedLength.Statement (.rr_D) := encodedLength_form _
theorem EncodedLength.rr_E : EncodedLength.Statement (.rr_E) := encodedLength_form _
theorem EncodedLength.rr_H : EncodedLength.Statement (.rr_H) := encodedLength_form _
theorem EncodedLength.rr_L : EncodedLength.Statement (.rr_L) := encodedLength_form _
theorem EncodedLength.rr_mHL : EncodedLength.Statement (.rr_mHL) := encodedLength_form _
theorem EncodedLength.rr_A : EncodedLength.Statement (.rr_A) := encodedLength_form _
theorem EncodedLength.sla_B : EncodedLength.Statement (.sla_B) := encodedLength_form _
theorem EncodedLength.sla_C : EncodedLength.Statement (.sla_C) := encodedLength_form _
theorem EncodedLength.sla_D : EncodedLength.Statement (.sla_D) := encodedLength_form _
theorem EncodedLength.sla_E : EncodedLength.Statement (.sla_E) := encodedLength_form _
theorem EncodedLength.sla_H : EncodedLength.Statement (.sla_H) := encodedLength_form _
theorem EncodedLength.sla_L : EncodedLength.Statement (.sla_L) := encodedLength_form _
theorem EncodedLength.sla_mHL : EncodedLength.Statement (.sla_mHL) := encodedLength_form _
theorem EncodedLength.sla_A : EncodedLength.Statement (.sla_A) := encodedLength_form _
theorem EncodedLength.sra_B : EncodedLength.Statement (.sra_B) := encodedLength_form _
theorem EncodedLength.sra_C : EncodedLength.Statement (.sra_C) := encodedLength_form _
theorem EncodedLength.sra_D : EncodedLength.Statement (.sra_D) := encodedLength_form _
theorem EncodedLength.sra_E : EncodedLength.Statement (.sra_E) := encodedLength_form _
theorem EncodedLength.sra_H : EncodedLength.Statement (.sra_H) := encodedLength_form _
theorem EncodedLength.sra_L : EncodedLength.Statement (.sra_L) := encodedLength_form _
theorem EncodedLength.sra_mHL : EncodedLength.Statement (.sra_mHL) := encodedLength_form _
theorem EncodedLength.sra_A : EncodedLength.Statement (.sra_A) := encodedLength_form _
theorem EncodedLength.swap_B : EncodedLength.Statement (.swap_B) := encodedLength_form _
theorem EncodedLength.swap_C : EncodedLength.Statement (.swap_C) := encodedLength_form _
theorem EncodedLength.swap_D : EncodedLength.Statement (.swap_D) := encodedLength_form _
theorem EncodedLength.swap_E : EncodedLength.Statement (.swap_E) := encodedLength_form _
theorem EncodedLength.swap_H : EncodedLength.Statement (.swap_H) := encodedLength_form _
theorem EncodedLength.swap_L : EncodedLength.Statement (.swap_L) := encodedLength_form _
theorem EncodedLength.swap_mHL : EncodedLength.Statement (.swap_mHL) := encodedLength_form _
theorem EncodedLength.swap_A : EncodedLength.Statement (.swap_A) := encodedLength_form _
theorem EncodedLength.srl_B : EncodedLength.Statement (.srl_B) := encodedLength_form _
theorem EncodedLength.srl_C : EncodedLength.Statement (.srl_C) := encodedLength_form _
theorem EncodedLength.srl_D : EncodedLength.Statement (.srl_D) := encodedLength_form _
theorem EncodedLength.srl_E : EncodedLength.Statement (.srl_E) := encodedLength_form _
theorem EncodedLength.srl_H : EncodedLength.Statement (.srl_H) := encodedLength_form _
theorem EncodedLength.srl_L : EncodedLength.Statement (.srl_L) := encodedLength_form _
theorem EncodedLength.srl_mHL : EncodedLength.Statement (.srl_mHL) := encodedLength_form _
theorem EncodedLength.srl_A : EncodedLength.Statement (.srl_A) := encodedLength_form _
theorem EncodedLength.bit_0_B : EncodedLength.Statement (.bit_0_B) := encodedLength_form _
theorem EncodedLength.bit_0_C : EncodedLength.Statement (.bit_0_C) := encodedLength_form _
theorem EncodedLength.bit_0_D : EncodedLength.Statement (.bit_0_D) := encodedLength_form _
theorem EncodedLength.bit_0_E : EncodedLength.Statement (.bit_0_E) := encodedLength_form _
theorem EncodedLength.bit_0_H : EncodedLength.Statement (.bit_0_H) := encodedLength_form _
theorem EncodedLength.bit_0_L : EncodedLength.Statement (.bit_0_L) := encodedLength_form _
theorem EncodedLength.bit_0_mHL : EncodedLength.Statement (.bit_0_mHL) := encodedLength_form _
theorem EncodedLength.bit_0_A : EncodedLength.Statement (.bit_0_A) := encodedLength_form _
theorem EncodedLength.bit_1_B : EncodedLength.Statement (.bit_1_B) := encodedLength_form _
theorem EncodedLength.bit_1_C : EncodedLength.Statement (.bit_1_C) := encodedLength_form _
theorem EncodedLength.bit_1_D : EncodedLength.Statement (.bit_1_D) := encodedLength_form _
theorem EncodedLength.bit_1_E : EncodedLength.Statement (.bit_1_E) := encodedLength_form _
theorem EncodedLength.bit_1_H : EncodedLength.Statement (.bit_1_H) := encodedLength_form _
theorem EncodedLength.bit_1_L : EncodedLength.Statement (.bit_1_L) := encodedLength_form _
theorem EncodedLength.bit_1_mHL : EncodedLength.Statement (.bit_1_mHL) := encodedLength_form _
theorem EncodedLength.bit_1_A : EncodedLength.Statement (.bit_1_A) := encodedLength_form _
theorem EncodedLength.bit_2_B : EncodedLength.Statement (.bit_2_B) := encodedLength_form _
theorem EncodedLength.bit_2_C : EncodedLength.Statement (.bit_2_C) := encodedLength_form _
theorem EncodedLength.bit_2_D : EncodedLength.Statement (.bit_2_D) := encodedLength_form _
theorem EncodedLength.bit_2_E : EncodedLength.Statement (.bit_2_E) := encodedLength_form _
theorem EncodedLength.bit_2_H : EncodedLength.Statement (.bit_2_H) := encodedLength_form _
theorem EncodedLength.bit_2_L : EncodedLength.Statement (.bit_2_L) := encodedLength_form _
theorem EncodedLength.bit_2_mHL : EncodedLength.Statement (.bit_2_mHL) := encodedLength_form _
theorem EncodedLength.bit_2_A : EncodedLength.Statement (.bit_2_A) := encodedLength_form _
theorem EncodedLength.bit_3_B : EncodedLength.Statement (.bit_3_B) := encodedLength_form _
theorem EncodedLength.bit_3_C : EncodedLength.Statement (.bit_3_C) := encodedLength_form _
theorem EncodedLength.bit_3_D : EncodedLength.Statement (.bit_3_D) := encodedLength_form _
theorem EncodedLength.bit_3_E : EncodedLength.Statement (.bit_3_E) := encodedLength_form _
theorem EncodedLength.bit_3_H : EncodedLength.Statement (.bit_3_H) := encodedLength_form _
theorem EncodedLength.bit_3_L : EncodedLength.Statement (.bit_3_L) := encodedLength_form _
theorem EncodedLength.bit_3_mHL : EncodedLength.Statement (.bit_3_mHL) := encodedLength_form _
theorem EncodedLength.bit_3_A : EncodedLength.Statement (.bit_3_A) := encodedLength_form _
theorem EncodedLength.bit_4_B : EncodedLength.Statement (.bit_4_B) := encodedLength_form _
theorem EncodedLength.bit_4_C : EncodedLength.Statement (.bit_4_C) := encodedLength_form _
theorem EncodedLength.bit_4_D : EncodedLength.Statement (.bit_4_D) := encodedLength_form _
theorem EncodedLength.bit_4_E : EncodedLength.Statement (.bit_4_E) := encodedLength_form _
theorem EncodedLength.bit_4_H : EncodedLength.Statement (.bit_4_H) := encodedLength_form _
theorem EncodedLength.bit_4_L : EncodedLength.Statement (.bit_4_L) := encodedLength_form _
theorem EncodedLength.bit_4_mHL : EncodedLength.Statement (.bit_4_mHL) := encodedLength_form _
theorem EncodedLength.bit_4_A : EncodedLength.Statement (.bit_4_A) := encodedLength_form _
theorem EncodedLength.bit_5_B : EncodedLength.Statement (.bit_5_B) := encodedLength_form _
theorem EncodedLength.bit_5_C : EncodedLength.Statement (.bit_5_C) := encodedLength_form _
theorem EncodedLength.bit_5_D : EncodedLength.Statement (.bit_5_D) := encodedLength_form _
theorem EncodedLength.bit_5_E : EncodedLength.Statement (.bit_5_E) := encodedLength_form _
theorem EncodedLength.bit_5_H : EncodedLength.Statement (.bit_5_H) := encodedLength_form _
theorem EncodedLength.bit_5_L : EncodedLength.Statement (.bit_5_L) := encodedLength_form _
theorem EncodedLength.bit_5_mHL : EncodedLength.Statement (.bit_5_mHL) := encodedLength_form _
theorem EncodedLength.bit_5_A : EncodedLength.Statement (.bit_5_A) := encodedLength_form _
theorem EncodedLength.bit_6_B : EncodedLength.Statement (.bit_6_B) := encodedLength_form _
theorem EncodedLength.bit_6_C : EncodedLength.Statement (.bit_6_C) := encodedLength_form _
theorem EncodedLength.bit_6_D : EncodedLength.Statement (.bit_6_D) := encodedLength_form _
theorem EncodedLength.bit_6_E : EncodedLength.Statement (.bit_6_E) := encodedLength_form _
theorem EncodedLength.bit_6_H : EncodedLength.Statement (.bit_6_H) := encodedLength_form _
theorem EncodedLength.bit_6_L : EncodedLength.Statement (.bit_6_L) := encodedLength_form _
theorem EncodedLength.bit_6_mHL : EncodedLength.Statement (.bit_6_mHL) := encodedLength_form _
theorem EncodedLength.bit_6_A : EncodedLength.Statement (.bit_6_A) := encodedLength_form _
theorem EncodedLength.bit_7_B : EncodedLength.Statement (.bit_7_B) := encodedLength_form _
theorem EncodedLength.bit_7_C : EncodedLength.Statement (.bit_7_C) := encodedLength_form _
theorem EncodedLength.bit_7_D : EncodedLength.Statement (.bit_7_D) := encodedLength_form _
theorem EncodedLength.bit_7_E : EncodedLength.Statement (.bit_7_E) := encodedLength_form _
theorem EncodedLength.bit_7_H : EncodedLength.Statement (.bit_7_H) := encodedLength_form _
theorem EncodedLength.bit_7_L : EncodedLength.Statement (.bit_7_L) := encodedLength_form _
theorem EncodedLength.bit_7_mHL : EncodedLength.Statement (.bit_7_mHL) := encodedLength_form _
theorem EncodedLength.bit_7_A : EncodedLength.Statement (.bit_7_A) := encodedLength_form _
theorem EncodedLength.res_0_B : EncodedLength.Statement (.res_0_B) := encodedLength_form _
theorem EncodedLength.res_0_C : EncodedLength.Statement (.res_0_C) := encodedLength_form _
theorem EncodedLength.res_0_D : EncodedLength.Statement (.res_0_D) := encodedLength_form _
theorem EncodedLength.res_0_E : EncodedLength.Statement (.res_0_E) := encodedLength_form _
theorem EncodedLength.res_0_H : EncodedLength.Statement (.res_0_H) := encodedLength_form _
theorem EncodedLength.res_0_L : EncodedLength.Statement (.res_0_L) := encodedLength_form _
theorem EncodedLength.res_0_mHL : EncodedLength.Statement (.res_0_mHL) := encodedLength_form _
theorem EncodedLength.res_0_A : EncodedLength.Statement (.res_0_A) := encodedLength_form _
theorem EncodedLength.res_1_B : EncodedLength.Statement (.res_1_B) := encodedLength_form _
theorem EncodedLength.res_1_C : EncodedLength.Statement (.res_1_C) := encodedLength_form _
theorem EncodedLength.res_1_D : EncodedLength.Statement (.res_1_D) := encodedLength_form _
theorem EncodedLength.res_1_E : EncodedLength.Statement (.res_1_E) := encodedLength_form _
theorem EncodedLength.res_1_H : EncodedLength.Statement (.res_1_H) := encodedLength_form _
theorem EncodedLength.res_1_L : EncodedLength.Statement (.res_1_L) := encodedLength_form _
theorem EncodedLength.res_1_mHL : EncodedLength.Statement (.res_1_mHL) := encodedLength_form _
theorem EncodedLength.res_1_A : EncodedLength.Statement (.res_1_A) := encodedLength_form _
theorem EncodedLength.res_2_B : EncodedLength.Statement (.res_2_B) := encodedLength_form _
theorem EncodedLength.res_2_C : EncodedLength.Statement (.res_2_C) := encodedLength_form _
theorem EncodedLength.res_2_D : EncodedLength.Statement (.res_2_D) := encodedLength_form _
theorem EncodedLength.res_2_E : EncodedLength.Statement (.res_2_E) := encodedLength_form _
theorem EncodedLength.res_2_H : EncodedLength.Statement (.res_2_H) := encodedLength_form _
theorem EncodedLength.res_2_L : EncodedLength.Statement (.res_2_L) := encodedLength_form _
theorem EncodedLength.res_2_mHL : EncodedLength.Statement (.res_2_mHL) := encodedLength_form _
theorem EncodedLength.res_2_A : EncodedLength.Statement (.res_2_A) := encodedLength_form _
theorem EncodedLength.res_3_B : EncodedLength.Statement (.res_3_B) := encodedLength_form _
theorem EncodedLength.res_3_C : EncodedLength.Statement (.res_3_C) := encodedLength_form _
theorem EncodedLength.res_3_D : EncodedLength.Statement (.res_3_D) := encodedLength_form _
theorem EncodedLength.res_3_E : EncodedLength.Statement (.res_3_E) := encodedLength_form _
theorem EncodedLength.res_3_H : EncodedLength.Statement (.res_3_H) := encodedLength_form _
theorem EncodedLength.res_3_L : EncodedLength.Statement (.res_3_L) := encodedLength_form _
theorem EncodedLength.res_3_mHL : EncodedLength.Statement (.res_3_mHL) := encodedLength_form _
theorem EncodedLength.res_3_A : EncodedLength.Statement (.res_3_A) := encodedLength_form _
theorem EncodedLength.res_4_B : EncodedLength.Statement (.res_4_B) := encodedLength_form _
theorem EncodedLength.res_4_C : EncodedLength.Statement (.res_4_C) := encodedLength_form _
theorem EncodedLength.res_4_D : EncodedLength.Statement (.res_4_D) := encodedLength_form _
theorem EncodedLength.res_4_E : EncodedLength.Statement (.res_4_E) := encodedLength_form _
theorem EncodedLength.res_4_H : EncodedLength.Statement (.res_4_H) := encodedLength_form _
theorem EncodedLength.res_4_L : EncodedLength.Statement (.res_4_L) := encodedLength_form _
theorem EncodedLength.res_4_mHL : EncodedLength.Statement (.res_4_mHL) := encodedLength_form _
theorem EncodedLength.res_4_A : EncodedLength.Statement (.res_4_A) := encodedLength_form _
theorem EncodedLength.res_5_B : EncodedLength.Statement (.res_5_B) := encodedLength_form _
theorem EncodedLength.res_5_C : EncodedLength.Statement (.res_5_C) := encodedLength_form _
theorem EncodedLength.res_5_D : EncodedLength.Statement (.res_5_D) := encodedLength_form _
theorem EncodedLength.res_5_E : EncodedLength.Statement (.res_5_E) := encodedLength_form _
theorem EncodedLength.res_5_H : EncodedLength.Statement (.res_5_H) := encodedLength_form _
theorem EncodedLength.res_5_L : EncodedLength.Statement (.res_5_L) := encodedLength_form _
theorem EncodedLength.res_5_mHL : EncodedLength.Statement (.res_5_mHL) := encodedLength_form _
theorem EncodedLength.res_5_A : EncodedLength.Statement (.res_5_A) := encodedLength_form _
theorem EncodedLength.res_6_B : EncodedLength.Statement (.res_6_B) := encodedLength_form _
theorem EncodedLength.res_6_C : EncodedLength.Statement (.res_6_C) := encodedLength_form _
theorem EncodedLength.res_6_D : EncodedLength.Statement (.res_6_D) := encodedLength_form _
theorem EncodedLength.res_6_E : EncodedLength.Statement (.res_6_E) := encodedLength_form _
theorem EncodedLength.res_6_H : EncodedLength.Statement (.res_6_H) := encodedLength_form _
theorem EncodedLength.res_6_L : EncodedLength.Statement (.res_6_L) := encodedLength_form _
theorem EncodedLength.res_6_mHL : EncodedLength.Statement (.res_6_mHL) := encodedLength_form _
theorem EncodedLength.res_6_A : EncodedLength.Statement (.res_6_A) := encodedLength_form _
theorem EncodedLength.res_7_B : EncodedLength.Statement (.res_7_B) := encodedLength_form _
theorem EncodedLength.res_7_C : EncodedLength.Statement (.res_7_C) := encodedLength_form _
theorem EncodedLength.res_7_D : EncodedLength.Statement (.res_7_D) := encodedLength_form _
theorem EncodedLength.res_7_E : EncodedLength.Statement (.res_7_E) := encodedLength_form _
theorem EncodedLength.res_7_H : EncodedLength.Statement (.res_7_H) := encodedLength_form _
theorem EncodedLength.res_7_L : EncodedLength.Statement (.res_7_L) := encodedLength_form _
theorem EncodedLength.res_7_mHL : EncodedLength.Statement (.res_7_mHL) := encodedLength_form _
theorem EncodedLength.res_7_A : EncodedLength.Statement (.res_7_A) := encodedLength_form _
theorem EncodedLength.set_0_B : EncodedLength.Statement (.set_0_B) := encodedLength_form _
theorem EncodedLength.set_0_C : EncodedLength.Statement (.set_0_C) := encodedLength_form _
theorem EncodedLength.set_0_D : EncodedLength.Statement (.set_0_D) := encodedLength_form _
theorem EncodedLength.set_0_E : EncodedLength.Statement (.set_0_E) := encodedLength_form _
theorem EncodedLength.set_0_H : EncodedLength.Statement (.set_0_H) := encodedLength_form _
theorem EncodedLength.set_0_L : EncodedLength.Statement (.set_0_L) := encodedLength_form _
theorem EncodedLength.set_0_mHL : EncodedLength.Statement (.set_0_mHL) := encodedLength_form _
theorem EncodedLength.set_0_A : EncodedLength.Statement (.set_0_A) := encodedLength_form _
theorem EncodedLength.set_1_B : EncodedLength.Statement (.set_1_B) := encodedLength_form _
theorem EncodedLength.set_1_C : EncodedLength.Statement (.set_1_C) := encodedLength_form _
theorem EncodedLength.set_1_D : EncodedLength.Statement (.set_1_D) := encodedLength_form _
theorem EncodedLength.set_1_E : EncodedLength.Statement (.set_1_E) := encodedLength_form _
theorem EncodedLength.set_1_H : EncodedLength.Statement (.set_1_H) := encodedLength_form _
theorem EncodedLength.set_1_L : EncodedLength.Statement (.set_1_L) := encodedLength_form _
theorem EncodedLength.set_1_mHL : EncodedLength.Statement (.set_1_mHL) := encodedLength_form _
theorem EncodedLength.set_1_A : EncodedLength.Statement (.set_1_A) := encodedLength_form _
theorem EncodedLength.set_2_B : EncodedLength.Statement (.set_2_B) := encodedLength_form _
theorem EncodedLength.set_2_C : EncodedLength.Statement (.set_2_C) := encodedLength_form _
theorem EncodedLength.set_2_D : EncodedLength.Statement (.set_2_D) := encodedLength_form _
theorem EncodedLength.set_2_E : EncodedLength.Statement (.set_2_E) := encodedLength_form _
theorem EncodedLength.set_2_H : EncodedLength.Statement (.set_2_H) := encodedLength_form _
theorem EncodedLength.set_2_L : EncodedLength.Statement (.set_2_L) := encodedLength_form _
theorem EncodedLength.set_2_mHL : EncodedLength.Statement (.set_2_mHL) := encodedLength_form _
theorem EncodedLength.set_2_A : EncodedLength.Statement (.set_2_A) := encodedLength_form _
theorem EncodedLength.set_3_B : EncodedLength.Statement (.set_3_B) := encodedLength_form _
theorem EncodedLength.set_3_C : EncodedLength.Statement (.set_3_C) := encodedLength_form _
theorem EncodedLength.set_3_D : EncodedLength.Statement (.set_3_D) := encodedLength_form _
theorem EncodedLength.set_3_E : EncodedLength.Statement (.set_3_E) := encodedLength_form _
theorem EncodedLength.set_3_H : EncodedLength.Statement (.set_3_H) := encodedLength_form _
theorem EncodedLength.set_3_L : EncodedLength.Statement (.set_3_L) := encodedLength_form _
theorem EncodedLength.set_3_mHL : EncodedLength.Statement (.set_3_mHL) := encodedLength_form _
theorem EncodedLength.set_3_A : EncodedLength.Statement (.set_3_A) := encodedLength_form _
theorem EncodedLength.set_4_B : EncodedLength.Statement (.set_4_B) := encodedLength_form _
theorem EncodedLength.set_4_C : EncodedLength.Statement (.set_4_C) := encodedLength_form _
theorem EncodedLength.set_4_D : EncodedLength.Statement (.set_4_D) := encodedLength_form _
theorem EncodedLength.set_4_E : EncodedLength.Statement (.set_4_E) := encodedLength_form _
theorem EncodedLength.set_4_H : EncodedLength.Statement (.set_4_H) := encodedLength_form _
theorem EncodedLength.set_4_L : EncodedLength.Statement (.set_4_L) := encodedLength_form _
theorem EncodedLength.set_4_mHL : EncodedLength.Statement (.set_4_mHL) := encodedLength_form _
theorem EncodedLength.set_4_A : EncodedLength.Statement (.set_4_A) := encodedLength_form _
theorem EncodedLength.set_5_B : EncodedLength.Statement (.set_5_B) := encodedLength_form _
theorem EncodedLength.set_5_C : EncodedLength.Statement (.set_5_C) := encodedLength_form _
theorem EncodedLength.set_5_D : EncodedLength.Statement (.set_5_D) := encodedLength_form _
theorem EncodedLength.set_5_E : EncodedLength.Statement (.set_5_E) := encodedLength_form _
theorem EncodedLength.set_5_H : EncodedLength.Statement (.set_5_H) := encodedLength_form _
theorem EncodedLength.set_5_L : EncodedLength.Statement (.set_5_L) := encodedLength_form _
theorem EncodedLength.set_5_mHL : EncodedLength.Statement (.set_5_mHL) := encodedLength_form _
theorem EncodedLength.set_5_A : EncodedLength.Statement (.set_5_A) := encodedLength_form _
theorem EncodedLength.set_6_B : EncodedLength.Statement (.set_6_B) := encodedLength_form _
theorem EncodedLength.set_6_C : EncodedLength.Statement (.set_6_C) := encodedLength_form _
theorem EncodedLength.set_6_D : EncodedLength.Statement (.set_6_D) := encodedLength_form _
theorem EncodedLength.set_6_E : EncodedLength.Statement (.set_6_E) := encodedLength_form _
theorem EncodedLength.set_6_H : EncodedLength.Statement (.set_6_H) := encodedLength_form _
theorem EncodedLength.set_6_L : EncodedLength.Statement (.set_6_L) := encodedLength_form _
theorem EncodedLength.set_6_mHL : EncodedLength.Statement (.set_6_mHL) := encodedLength_form _
theorem EncodedLength.set_6_A : EncodedLength.Statement (.set_6_A) := encodedLength_form _
theorem EncodedLength.set_7_B : EncodedLength.Statement (.set_7_B) := encodedLength_form _
theorem EncodedLength.set_7_C : EncodedLength.Statement (.set_7_C) := encodedLength_form _
theorem EncodedLength.set_7_D : EncodedLength.Statement (.set_7_D) := encodedLength_form _
theorem EncodedLength.set_7_E : EncodedLength.Statement (.set_7_E) := encodedLength_form _
theorem EncodedLength.set_7_H : EncodedLength.Statement (.set_7_H) := encodedLength_form _
theorem EncodedLength.set_7_L : EncodedLength.Statement (.set_7_L) := encodedLength_form _
theorem EncodedLength.set_7_mHL : EncodedLength.Statement (.set_7_mHL) := encodedLength_form _
theorem EncodedLength.set_7_A : EncodedLength.Statement (.set_7_A) := encodedLength_form _

end Sys2Proof.Laws
end

