-- ==== Sys2Proof/Laws/Step.lean ====
section
/-! SUPPORT. What a step can do, said once: the five ways it ends (R500), how each begins, and which source an interrupt
dispatch services. -/

namespace Sys2Proof.Machine

/-! ### The record of the fetches -/

/-- The fetches of an instruction of `n` bytes stand on the record in address order, and nothing else changes. -/
theorem State.noteFetches_eq (s : State) (n : Nat) :
    s.noteFetches n = { s with
      accesses := s.accesses ++ (List.range n).map (fun k => BusAccess.fetch (s.nextPc k) (s.fetchByte k)) } := by
  induction n with
  | zero => simp [State.noteFetches]
  | succ n ih =>
    rw [List.range_succ, List.map_append, List.map_singleton, ← List.append_assoc]
    simp only [State.noteFetches, ih, State.note]

/-! ### The writes of other masters -/

/-- What CORE's state proper holds that no bus write touches. -/
theorem State.externalWrites_frame (s : State) (ws : List (Word × Byte)) :
    (s.externalWrites ws).regs = s.regs ∧ (s.externalWrites ws).sp = s.sp ∧ (s.externalWrites ws).pc = s.pc
    ∧ (s.externalWrites ws).ime = s.ime ∧ (s.externalWrites ws).halted = s.halted
    ∧ (s.externalWrites ws).wait = s.wait ∧ (s.externalWrites ws).cycle = s.cycle
    ∧ (s.externalWrites ws).inputs = s.inputs ∧ (s.externalWrites ws).accesses = s.accesses := by
  induction ws generalizing s with
  | nil => exact ⟨rfl, rfl, rfl, rfl, rfl, rfl, rfl, rfl, rfl⟩
  | cons w rest ih =>
    have := ih (s.busWrite w.1 w.2)
    simpa [State.externalWrites] using this

theorem State.memWf_externalWrites {s : State} (h : s.memWf = true) (ws : List (Word × Byte)) :
    (s.externalWrites ws).memWf = true := by
  induction ws generalizing s with
  | nil => exact h
  | cons w rest ih => exact ih (State.memWf_busWrite h w.1 w.2)

/-- The writes of other masters do not look at the halted flag or the wait counter. -/
theorem State.externalWrites_set_halted_wait (s : State) (x : Bool) (n : Nat) (ws : List (Word × Byte)) :
    ({ s with halted := x, wait := n } : State).externalWrites ws = { s.externalWrites ws with halted := x, wait := n } := by
  induction ws generalizing s with
  | nil => rfl
  | cons w rest ih => exact ih (s.busWrite w.1 w.2)

/-! ### The beginning of a cycle -/

/-- Nor does the beginning of a cycle. -/
theorem State.beginCycle_set_halted_wait (s : State) (x : Bool) (n : Nat) :
    ({ s with halted := x, wait := n } : State).beginCycle = { s.beginCycle with halted := x, wait := n } :=
  congrArg (fun t : State => t.mergeRequests s.input.irq)
    (State.externalWrites_set_halted_wait { s with cycle := s.cycle + 1, inputs := s.inputs.tail, accesses := [] } x n
      s.input.writes)

/-- With no writes from outside, only the requests, the cycle index, the inputs and the record change. -/
theorem State.beginCycle_of_no_writes {s : State} (h : s.input.writes = []) :
    s.beginCycle = { s with
      ifr := s.ifr ||| s.input.irq.setWidth 8
      cycle := s.cycle + 1
      inputs := s.inputs.tail
      accesses := [] } := by
  simp only [State.beginCycle, h, State.externalWrites, State.mergeRequests]

/-- With nothing waiting, only the cycle index and the record change. -/
theorem State.beginCycle_of_no_inputs {s : State} (h : s.inputs = []) :
    s.beginCycle = { s with cycle := s.cycle + 1, accesses := [] } := by
  have hi : s.input = CycleInput.quiet := by simp [State.input, h]
  rw [State.beginCycle_of_no_writes (by rw [hi]; rfl)]
  simp [hi, CycleInput.quiet, h]

/-- What the beginning of a cycle leaves alone. -/
theorem State.beginCycle_frame (s : State) :
    s.beginCycle.regs = s.regs ∧ s.beginCycle.sp = s.sp ∧ s.beginCycle.pc = s.pc ∧ s.beginCycle.ime = s.ime
    ∧ s.beginCycle.halted = s.halted ∧ s.beginCycle.wait = s.wait ∧ s.beginCycle.cycle = s.cycle + 1
    ∧ s.beginCycle.inputs = s.inputs.tail ∧ s.beginCycle.accesses = [] := by
  have := ({ s with cycle := s.cycle + 1, inputs := s.inputs.tail, accesses := [] } : State).externalWrites_frame
    s.input.writes
  exact this

theorem State.memWf_beginCycle {s : State} (h : s.memWf = true) : s.beginCycle.memWf = true :=
  State.memWf_externalWrites (s := { s with cycle := s.cycle + 1, inputs := s.inputs.tail, accesses := [] }) h
    s.input.writes

/-! ### The five ways a step ends -/

theorem State.wake_of_not_halted {s : State} (h : s.halted = false) : s.wake = s := by simp [State.wake, h]

theorem State.wake_of_not_pending {s : State} (h : s.pending = false) : s.wake = s := by simp [State.wake, h]

theorem State.wake_of_pending {s : State} (h : s.halted = true) (hp : s.pending = true) :
    s.wake = { s with halted := false, wait := 0 } := by simp [State.wake, h, hp]

/-- A halted CORE with nothing pending. -/
theorem coreStep_of_halted {s : State} (h : s.halted = true) (hp : s.pending = false) : coreStep s = .next s := by
  simp [coreStep, State.wake_of_not_pending hp, h]

/-- A busy CORE. -/
theorem coreStep_of_busy {s : State} (h : s.halted = false) (hw : 0 < s.wait) :
    coreStep s = .next { s with wait := s.wait - 1 } := by
  simp [coreStep, State.wake_of_not_halted h, h, hw]

/-- An active CORE that takes an interrupt. -/
theorem coreStep_of_interrupt {s : State} (h : s.halted = false) (hw : s.wait = 0) (hi : s.ime = true)
    (hp : s.pending = true) : coreStep s = dispatchInterrupt s := by
  simp [coreStep, State.wake_of_not_halted h, h, hw, hi, hp]

/-- An active CORE that executes. -/
theorem coreStep_of_execute {s : State} (h : s.halted = false) (hw : s.wait = 0) (hi : (s.ime && s.pending) = false) :
    coreStep s = executeInstruction s := by
  simp only [Bool.and_eq_false_iff] at hi
  rcases hi with hi | hi <;> simp [coreStep, State.wake_of_not_halted h, h, hw, hi]

/-- Waking comes first: a CORE to be woken steps as the woken CORE. -/
theorem coreStep_of_wake {s : State} (h : s.halted = true) (hp : s.pending = true) :
    coreStep s = coreStep { s with halted := false, wait := 0 } := by
  have e := State.wake_of_pending h hp
  have e' : ({ s with halted := false, wait := 0 } : State).wake = { s with halted := false, wait := 0 } :=
    State.wake_of_not_halted rfl
  simp only [coreStep, e, e']

/-- Every way a step of CORE ends (R500): halted idle, busy idle, dispatch or execute. -/
theorem coreStep_cases (s : State) :
    (s.wake.halted = true ∧ coreStep s = .next s.wake)
    ∨ (s.wake.halted = false ∧ 0 < s.wake.wait ∧ coreStep s = .next { s.wake with wait := s.wake.wait - 1 })
    ∨ (s.wake.halted = false ∧ s.wake.wait = 0 ∧ s.wake.ime = true ∧ s.wake.pending = true
        ∧ coreStep s = dispatchInterrupt s.wake)
    ∨ (s.wake.halted = false ∧ s.wake.wait = 0 ∧ (s.wake.ime && s.wake.pending) = false
        ∧ coreStep s = executeInstruction s.wake) := by
  cases hh : s.wake.halted with
  | true => exact .inl ⟨rfl, by simp [coreStep, hh]⟩
  | false =>
    rcases Nat.eq_zero_or_pos s.wake.wait with hw | hw
    · cases hi : s.wake.ime && s.wake.pending with
      | true =>
        have hi' := hi
        simp only [Bool.and_eq_true] at hi'
        refine .inr (.inr (.inl ⟨rfl, hw, hi'.1, hi'.2, ?_⟩))
        simp only [coreStep, hh, hw, hi]
        simp
      | false =>
        refine .inr (.inr (.inr ⟨rfl, hw, rfl, ?_⟩))
        simp only [coreStep, hh, hw, hi]
        simp
    · exact .inr (.inl ⟨rfl, hw, by simp [coreStep, hh, hw]⟩)

/-- A step with the reset line not asserted is CORE's step on the state its cycle begins in. -/
theorem step_of_no_reset {s : State} (h : s.input.reset = false) : step s = coreStep s.beginCycle := by
  simp [step, clock, h]

theorem step_of_reset {s : State} (h : s.input.reset = true) : step s = .next s.beginCycle.coreReset := by
  simp [step, clock, h]

/-- A run of `n + 1` steps whose first answers `t` is the run of `n` steps from `t`. -/
theorem run_succ {s t : State} (h : step s = .next t) (n : Nat) :
    Host.Core.run core (n + 1) s = Host.Core.run core n t := by
  have h' : core.step s = .next t := h
  simp only [Host.Core.run, h']

/-! ### Which source is serviced -/

/-- The serviced source is the least one pending and enabled (R503, R515). -/
theorem servicedSource_eq_some_iff (m : Byte) (k : IrqSource) :
    servicedSource m = some k ↔
      Bits.test m k.index = true ∧ ∀ j : IrqSource, j.index < k.index → Bits.test m j.index = false := by
  have all : ∀ P : IrqSource → Prop,
      (∀ j, P j) ↔ P .vblank ∧ P .lcdStatus ∧ P .timer ∧ P .serial ∧ P .joypad :=
    fun P => ⟨fun h => ⟨h _, h _, h _, h _, h _⟩, fun ⟨a, b, c, d, e⟩ j => by cases j <;> assumption⟩
  rw [all]
  unfold servicedSource IrqSource.byPriority
  cases k <;>
    (simp only [List.find?_cons, IrqSource.index, List.find?_nil]
     generalize Bits.test m 0 = b0
     generalize Bits.test m 1 = b1
     generalize Bits.test m 2 = b2
     generalize Bits.test m 3 = b3
     generalize Bits.test m 4 = b4
     cases b0 <;> cases b1 <;> cases b2 <;> cases b3 <;> cases b4 <;> simp)

/-- No source is serviced exactly when bits 4..0 are clear. -/
theorem servicedSource_eq_none_iff (m : Byte) :
    servicedSource m = none ↔ ∀ k : IrqSource, Bits.test m k.index = false := by
  unfold servicedSource
  rw [List.find?_eq_none]
  constructor
  · intro h k
    have := h k (by cases k <;> decide)
    simpa using this
  · intro h k _
    simpa using h k

/-- All an interrupt dispatch of source `k` does (R503). -/
theorem dispatchInterrupt_eq {s : State} {k : IrqSource} (h : servicedSource s.enabledRequests = some k) :
    dispatchInterrupt s = .next
      (({ s with ifr := Bits.set s.ifr k.index false, ime := false } : State).push16 s.pc |>.retire
        k.serviceAddress Config.intDispatchCost) := by
  unfold dispatchInterrupt
  rw [h]

/-- Where there is no source the dispatch faults. -/
theorem dispatchInterrupt_fault {s : State} (h : servicedSource s.enabledRequests = none) :
    dispatchInterrupt s = .fault (.noInterruptSource s.enabledRequests s.pc) := by
  unfold dispatchInterrupt
  rw [h]

end Sys2Proof.Machine
end

