-- ==== Sys2Proof/Tests/Slice0.lean ====
section
/-! SUPPORT. The model's own tests. Expected results come from the spec: the words from the `encoding` column of
spec/opcode_table.json, the values from spec/95_test_vectors.md (its section 1 is the source's own). Each test is about
one step. At the end, for every obligation with hypotheses, a concrete state and operands that meet them, one for each
clause, at the bounds of their ranges. -/

namespace Sys2Proof.Tests

open Sys2Proof Sys2Proof.Machine

/-- The base state of 95_test_vectors.md section 3, on its test platform. -/
def base : State := { State.reset with sp := 0xD000, pc := 0x0100 }

/-- A state with code at PC and data elsewhere. -/
def load (code : List Byte) (data : List (Word × Byte)) (s : State) : State :=
  s.externalWrites ((code.zipIdx.map fun b => (s.nextPc b.2, b.1)) ++ data)

/-- A view of a next state. -/
def look {α : Type} (f : State → α) (r : Result) : Option α :=
  match r with
  | .next t => some (f t)
  | .fault _ => none
  | .refused _ => none

/-- The fault of a step that ends in one. -/
def faultOf (r : Result) : Option Fault :=
  match r with
  | .next _ => none
  | .fault f => some f
  | .refused _ => none

/-! ### WellFormed refuses what it must -/

theorem test_wellFormed_refuses_illegal :
    [Instr.illegal_D3, .illegal_DB, .illegal_DD, .illegal_E3, .illegal_E4, .illegal_EB, .illegal_EC, .illegal_ED,
      .illegal_F4, .illegal_FC, .illegal_FD].map Instr.wellFormed = List.replicate 11 false := by decide

theorem test_wellFormed_accepts :
    [Instr.nop, .stop, .halt, .ld_A_n8 0xFF, .ld_SP_n16 0xFFFF, .jr_C_e8 0x80, .set_7_A, .rst_38].map Instr.wellFormed =
      List.replicate 8 true := by decide

/-! ### Decoding: a word for every constructor, written out bit by bit -/

theorem test_decode_primary_0 :
    ([0b00_000_000, 0b00_000_001, 0b00_000_010, 0b00_000_011, 0b00_000_100, 0b00_000_101, 0b00_000_110, 0b00_000_111,
      0b00_001_000, 0b00_001_001, 0b00_001_010, 0b00_001_011, 0b00_001_100, 0b00_001_101, 0b00_001_110, 0b00_001_111,
      0b00_010_000, 0b00_010_001, 0b00_010_010, 0b00_010_011, 0b00_010_100, 0b00_010_101, 0b00_010_110, 0b00_010_111,
      0b00_011_000, 0b00_011_001, 0b00_011_010, 0b00_011_011, 0b00_011_100, 0b00_011_101, 0b00_011_110, 0b00_011_111]
    ).map (fun op => decode3 op 0x34 0x12) =
    [.nop, .ld_BC_n16 0x1234, .ld_mBC_A, .inc_BC, .inc_B, .dec_B, .ld_B_n8 0x34, .rlca, .ld_mN16_SP 0x1234,
     .add_HL_BC, .ld_A_mBC, .dec_BC, .inc_C, .dec_C, .ld_C_n8 0x34, .rrca, .stop, .ld_DE_n16 0x1234, .ld_mDE_A,
     .inc_DE, .inc_D, .dec_D, .ld_D_n8 0x34, .rla, .jr_e8 0x34, .add_HL_DE, .ld_A_mDE, .dec_DE, .inc_E, .dec_E,
     .ld_E_n8 0x34, .rra] := rfl

theorem test_decode_primary_1 :
    ([0b00_100_000, 0b00_100_001, 0b00_100_010, 0b00_100_011, 0b00_100_100, 0b00_100_101, 0b00_100_110, 0b00_100_111,
      0b00_101_000, 0b00_101_001, 0b00_101_010, 0b00_101_011, 0b00_101_100, 0b00_101_101, 0b00_101_110, 0b00_101_111,
      0b00_110_000, 0b00_110_001, 0b00_110_010, 0b00_110_011, 0b00_110_100, 0b00_110_101, 0b00_110_110, 0b00_110_111,
      0b00_111_000, 0b00_111_001, 0b00_111_010, 0b00_111_011, 0b00_111_100, 0b00_111_101, 0b00_111_110, 0b00_111_111]
    ).map (fun op => decode3 op 0x34 0x12) =
    [.jr_NZ_e8 0x34, .ld_HL_n16 0x1234, .ld_mHLinc_A, .inc_HL, .inc_H, .dec_H, .ld_H_n8 0x34, .daa, .jr_Z_e8 0x34,
     .add_HL_HL, .ld_A_mHLinc, .dec_HL, .inc_L, .dec_L, .ld_L_n8 0x34, .cpl, .jr_NC_e8 0x34, .ld_SP_n16 0x1234,
     .ld_mHLdec_A, .inc_SP, .inc_mHL, .dec_mHL, .ld_mHL_n8 0x34, .scf, .jr_C_e8 0x34, .add_HL_SP, .ld_A_mHLdec,
     .dec_SP, .inc_A, .dec_A, .ld_A_n8 0x34, .ccf] := rfl

theorem test_decode_primary_2 :
    ([0b01_000_000, 0b01_000_001, 0b01_000_010, 0b01_000_011, 0b01_000_100, 0b01_000_101, 0b01_000_110, 0b01_000_111,
      0b01_001_000, 0b01_001_001, 0b01_001_010, 0b01_001_011, 0b01_001_100, 0b01_001_101, 0b01_001_110, 0b01_001_111,
      0b01_010_000, 0b01_010_001, 0b01_010_010, 0b01_010_011, 0b01_010_100, 0b01_010_101, 0b01_010_110, 0b01_010_111,
      0b01_011_000, 0b01_011_001, 0b01_011_010, 0b01_011_011, 0b01_011_100, 0b01_011_101, 0b01_011_110, 0b01_011_111]
    ).map (fun op => decode3 op 0x34 0x12) =
    [.ld_B_B, .ld_B_C, .ld_B_D, .ld_B_E, .ld_B_H, .ld_B_L, .ld_B_mHL, .ld_B_A, .ld_C_B, .ld_C_C, .ld_C_D, .ld_C_E,
     .ld_C_H, .ld_C_L, .ld_C_mHL, .ld_C_A, .ld_D_B, .ld_D_C, .ld_D_D, .ld_D_E, .ld_D_H, .ld_D_L, .ld_D_mHL, .ld_D_A,
     .ld_E_B, .ld_E_C, .ld_E_D, .ld_E_E, .ld_E_H, .ld_E_L, .ld_E_mHL, .ld_E_A] := rfl

theorem test_decode_primary_3 :
    ([0b01_100_000, 0b01_100_001, 0b01_100_010, 0b01_100_011, 0b01_100_100, 0b01_100_101, 0b01_100_110, 0b01_100_111,
      0b01_101_000, 0b01_101_001, 0b01_101_010, 0b01_101_011, 0b01_101_100, 0b01_101_101, 0b01_101_110, 0b01_101_111,
      0b01_110_000, 0b01_110_001, 0b01_110_010, 0b01_110_011, 0b01_110_100, 0b01_110_101, 0b01_110_110, 0b01_110_111,
      0b01_111_000, 0b01_111_001, 0b01_111_010, 0b01_111_011, 0b01_111_100, 0b01_111_101, 0b01_111_110, 0b01_111_111]
    ).map (fun op => decode3 op 0x34 0x12) =
    [.ld_H_B, .ld_H_C, .ld_H_D, .ld_H_E, .ld_H_H, .ld_H_L, .ld_H_mHL, .ld_H_A, .ld_L_B, .ld_L_C, .ld_L_D, .ld_L_E,
     .ld_L_H, .ld_L_L, .ld_L_mHL, .ld_L_A, .ld_mHL_B, .ld_mHL_C, .ld_mHL_D, .ld_mHL_E, .ld_mHL_H, .ld_mHL_L, .halt,
     .ld_mHL_A, .ld_A_B, .ld_A_C, .ld_A_D, .ld_A_E, .ld_A_H, .ld_A_L, .ld_A_mHL, .ld_A_A] := rfl

theorem test_decode_primary_4 :
    ([0b10_000_000, 0b10_000_001, 0b10_000_010, 0b10_000_011, 0b10_000_100, 0b10_000_101, 0b10_000_110, 0b10_000_111,
      0b10_001_000, 0b10_001_001, 0b10_001_010, 0b10_001_011, 0b10_001_100, 0b10_001_101, 0b10_001_110, 0b10_001_111,
      0b10_010_000, 0b10_010_001, 0b10_010_010, 0b10_010_011, 0b10_010_100, 0b10_010_101, 0b10_010_110, 0b10_010_111,
      0b10_011_000, 0b10_011_001, 0b10_011_010, 0b10_011_011, 0b10_011_100, 0b10_011_101, 0b10_011_110, 0b10_011_111]
    ).map (fun op => decode3 op 0x34 0x12) =
    [.add_A_B, .add_A_C, .add_A_D, .add_A_E, .add_A_H, .add_A_L, .add_A_mHL, .add_A_A, .adc_A_B, .adc_A_C, .adc_A_D,
     .adc_A_E, .adc_A_H, .adc_A_L, .adc_A_mHL, .adc_A_A, .sub_A_B, .sub_A_C, .sub_A_D, .sub_A_E, .sub_A_H, .sub_A_L,
     .sub_A_mHL, .sub_A_A, .sbc_A_B, .sbc_A_C, .sbc_A_D, .sbc_A_E, .sbc_A_H, .sbc_A_L, .sbc_A_mHL, .sbc_A_A] := rfl

theorem test_decode_primary_5 :
    ([0b10_100_000, 0b10_100_001, 0b10_100_010, 0b10_100_011, 0b10_100_100, 0b10_100_101, 0b10_100_110, 0b10_100_111,
      0b10_101_000, 0b10_101_001, 0b10_101_010, 0b10_101_011, 0b10_101_100, 0b10_101_101, 0b10_101_110, 0b10_101_111,
      0b10_110_000, 0b10_110_001, 0b10_110_010, 0b10_110_011, 0b10_110_100, 0b10_110_101, 0b10_110_110, 0b10_110_111,
      0b10_111_000, 0b10_111_001, 0b10_111_010, 0b10_111_011, 0b10_111_100, 0b10_111_101, 0b10_111_110, 0b10_111_111]
    ).map (fun op => decode3 op 0x34 0x12) =
    [.and_A_B, .and_A_C, .and_A_D, .and_A_E, .and_A_H, .and_A_L, .and_A_mHL, .and_A_A, .xor_A_B, .xor_A_C, .xor_A_D,
     .xor_A_E, .xor_A_H, .xor_A_L, .xor_A_mHL, .xor_A_A, .or_A_B, .or_A_C, .or_A_D, .or_A_E, .or_A_H, .or_A_L,
     .or_A_mHL, .or_A_A, .cp_A_B, .cp_A_C, .cp_A_D, .cp_A_E, .cp_A_H, .cp_A_L, .cp_A_mHL, .cp_A_A] := rfl

theorem test_decode_primary_6 :
    ([0b11_000_000, 0b11_000_001, 0b11_000_010, 0b11_000_011, 0b11_000_100, 0b11_000_101, 0b11_000_110, 0b11_000_111,
      0b11_001_000, 0b11_001_001, 0b11_001_010, 0b11_001_100, 0b11_001_101, 0b11_001_110, 0b11_001_111, 0b11_010_000,
      0b11_010_001, 0b11_010_010, 0b11_010_011, 0b11_010_100, 0b11_010_101, 0b11_010_110, 0b11_010_111, 0b11_011_000,
      0b11_011_001, 0b11_011_010, 0b11_011_011, 0b11_011_100, 0b11_011_101, 0b11_011_110, 0b11_011_111, 0b11_100_000]
    ).map (fun op => decode3 op 0x34 0x12) =
    [.ret_NZ, .pop_BC, .jp_NZ_n16 0x1234, .jp_n16 0x1234, .call_NZ_n16 0x1234, .push_BC, .add_A_n8 0x34, .rst_00,
     .ret_Z, .ret, .jp_Z_n16 0x1234, .call_Z_n16 0x1234, .call_n16 0x1234, .adc_A_n8 0x34, .rst_08, .ret_NC, .pop_DE,
     .jp_NC_n16 0x1234, .illegal_D3, .call_NC_n16 0x1234, .push_DE, .sub_A_n8 0x34, .rst_10, .ret_C, .reti,
     .jp_C_n16 0x1234, .illegal_DB, .call_C_n16 0x1234, .illegal_DD, .sbc_A_n8 0x34, .rst_18, .ldh_mN8_A 0x34] := rfl

theorem test_decode_primary_7 :
    ([0b11_100_001, 0b11_100_010, 0b11_100_011, 0b11_100_100, 0b11_100_101, 0b11_100_110, 0b11_100_111, 0b11_101_000,
      0b11_101_001, 0b11_101_010, 0b11_101_011, 0b11_101_100, 0b11_101_101, 0b11_101_110, 0b11_101_111, 0b11_110_000,
      0b11_110_001, 0b11_110_010, 0b11_110_011, 0b11_110_100, 0b11_110_101, 0b11_110_110, 0b11_110_111, 0b11_111_000,
      0b11_111_001, 0b11_111_010, 0b11_111_011, 0b11_111_100, 0b11_111_101, 0b11_111_110, 0b11_111_111]
    ).map (fun op => decode3 op 0x34 0x12) =
    [.pop_HL, .ldh_mC_A, .illegal_E3, .illegal_E4, .push_HL, .and_A_n8 0x34, .rst_20, .add_SP_e8 0x34, .jp_HL,
     .ld_mN16_A 0x1234, .illegal_EB, .illegal_EC, .illegal_ED, .xor_A_n8 0x34, .rst_28, .ldh_A_mN8 0x34, .pop_AF,
     .ldh_A_mC, .di, .illegal_F4, .push_AF, .or_A_n8 0x34, .rst_30, .ld_HL_SPe8 0x34, .ld_SP_HL, .ld_A_mN16 0x1234,
     .ei, .illegal_FC, .illegal_FD, .cp_A_n8 0x34, .rst_38] := rfl

theorem test_decode_secondary_0 :
    ([0b00_000_000, 0b00_000_001, 0b00_000_010, 0b00_000_011, 0b00_000_100, 0b00_000_101, 0b00_000_110, 0b00_000_111,
      0b00_001_000, 0b00_001_001, 0b00_001_010, 0b00_001_011, 0b00_001_100, 0b00_001_101, 0b00_001_110, 0b00_001_111,
      0b00_010_000, 0b00_010_001, 0b00_010_010, 0b00_010_011, 0b00_010_100, 0b00_010_101, 0b00_010_110, 0b00_010_111,
      0b00_011_000, 0b00_011_001, 0b00_011_010, 0b00_011_011, 0b00_011_100, 0b00_011_101, 0b00_011_110, 0b00_011_111]
    ).map (fun op => decode3 0xCB op 0x12) =
    [.rlc_B, .rlc_C, .rlc_D, .rlc_E, .rlc_H, .rlc_L, .rlc_mHL, .rlc_A, .rrc_B, .rrc_C, .rrc_D, .rrc_E, .rrc_H, .rrc_L,
     .rrc_mHL, .rrc_A, .rl_B, .rl_C, .rl_D, .rl_E, .rl_H, .rl_L, .rl_mHL, .rl_A, .rr_B, .rr_C, .rr_D, .rr_E, .rr_H,
     .rr_L, .rr_mHL, .rr_A] := rfl

theorem test_decode_secondary_1 :
    ([0b00_100_000, 0b00_100_001, 0b00_100_010, 0b00_100_011, 0b00_100_100, 0b00_100_101, 0b00_100_110, 0b00_100_111,
      0b00_101_000, 0b00_101_001, 0b00_101_010, 0b00_101_011, 0b00_101_100, 0b00_101_101, 0b00_101_110, 0b00_101_111,
      0b00_110_000, 0b00_110_001, 0b00_110_010, 0b00_110_011, 0b00_110_100, 0b00_110_101, 0b00_110_110, 0b00_110_111,
      0b00_111_000, 0b00_111_001, 0b00_111_010, 0b00_111_011, 0b00_111_100, 0b00_111_101, 0b00_111_110, 0b00_111_111]
    ).map (fun op => decode3 0xCB op 0x12) =
    [.sla_B, .sla_C, .sla_D, .sla_E, .sla_H, .sla_L, .sla_mHL, .sla_A, .sra_B, .sra_C, .sra_D, .sra_E, .sra_H, .sra_L,
     .sra_mHL, .sra_A, .swap_B, .swap_C, .swap_D, .swap_E, .swap_H, .swap_L, .swap_mHL, .swap_A, .srl_B, .srl_C,
     .srl_D, .srl_E, .srl_H, .srl_L, .srl_mHL, .srl_A] := rfl

theorem test_decode_secondary_2 :
    ([0b01_000_000, 0b01_000_001, 0b01_000_010, 0b01_000_011, 0b01_000_100, 0b01_000_101, 0b01_000_110, 0b01_000_111,
      0b01_001_000, 0b01_001_001, 0b01_001_010, 0b01_001_011, 0b01_001_100, 0b01_001_101, 0b01_001_110, 0b01_001_111,
      0b01_010_000, 0b01_010_001, 0b01_010_010, 0b01_010_011, 0b01_010_100, 0b01_010_101, 0b01_010_110, 0b01_010_111,
      0b01_011_000, 0b01_011_001, 0b01_011_010, 0b01_011_011, 0b01_011_100, 0b01_011_101, 0b01_011_110, 0b01_011_111]
    ).map (fun op => decode3 0xCB op 0x12) =
    [.bit_0_B, .bit_0_C, .bit_0_D, .bit_0_E, .bit_0_H, .bit_0_L, .bit_0_mHL, .bit_0_A, .bit_1_B, .bit_1_C, .bit_1_D,
     .bit_1_E, .bit_1_H, .bit_1_L, .bit_1_mHL, .bit_1_A, .bit_2_B, .bit_2_C, .bit_2_D, .bit_2_E, .bit_2_H, .bit_2_L,
     .bit_2_mHL, .bit_2_A, .bit_3_B, .bit_3_C, .bit_3_D, .bit_3_E, .bit_3_H, .bit_3_L, .bit_3_mHL, .bit_3_A] := rfl

theorem test_decode_secondary_3 :
    ([0b01_100_000, 0b01_100_001, 0b01_100_010, 0b01_100_011, 0b01_100_100, 0b01_100_101, 0b01_100_110, 0b01_100_111,
      0b01_101_000, 0b01_101_001, 0b01_101_010, 0b01_101_011, 0b01_101_100, 0b01_101_101, 0b01_101_110, 0b01_101_111,
      0b01_110_000, 0b01_110_001, 0b01_110_010, 0b01_110_011, 0b01_110_100, 0b01_110_101, 0b01_110_110, 0b01_110_111,
      0b01_111_000, 0b01_111_001, 0b01_111_010, 0b01_111_011, 0b01_111_100, 0b01_111_101, 0b01_111_110, 0b01_111_111]
    ).map (fun op => decode3 0xCB op 0x12) =
    [.bit_4_B, .bit_4_C, .bit_4_D, .bit_4_E, .bit_4_H, .bit_4_L, .bit_4_mHL, .bit_4_A, .bit_5_B, .bit_5_C, .bit_5_D,
     .bit_5_E, .bit_5_H, .bit_5_L, .bit_5_mHL, .bit_5_A, .bit_6_B, .bit_6_C, .bit_6_D, .bit_6_E, .bit_6_H, .bit_6_L,
     .bit_6_mHL, .bit_6_A, .bit_7_B, .bit_7_C, .bit_7_D, .bit_7_E, .bit_7_H, .bit_7_L, .bit_7_mHL, .bit_7_A] := rfl

theorem test_decode_secondary_4 :
    ([0b10_000_000, 0b10_000_001, 0b10_000_010, 0b10_000_011, 0b10_000_100, 0b10_000_101, 0b10_000_110, 0b10_000_111,
      0b10_001_000, 0b10_001_001, 0b10_001_010, 0b10_001_011, 0b10_001_100, 0b10_001_101, 0b10_001_110, 0b10_001_111,
      0b10_010_000, 0b10_010_001, 0b10_010_010, 0b10_010_011, 0b10_010_100, 0b10_010_101, 0b10_010_110, 0b10_010_111,
      0b10_011_000, 0b10_011_001, 0b10_011_010, 0b10_011_011, 0b10_011_100, 0b10_011_101, 0b10_011_110, 0b10_011_111]
    ).map (fun op => decode3 0xCB op 0x12) =
    [.res_0_B, .res_0_C, .res_0_D, .res_0_E, .res_0_H, .res_0_L, .res_0_mHL, .res_0_A, .res_1_B, .res_1_C, .res_1_D,
     .res_1_E, .res_1_H, .res_1_L, .res_1_mHL, .res_1_A, .res_2_B, .res_2_C, .res_2_D, .res_2_E, .res_2_H, .res_2_L,
     .res_2_mHL, .res_2_A, .res_3_B, .res_3_C, .res_3_D, .res_3_E, .res_3_H, .res_3_L, .res_3_mHL, .res_3_A] := rfl

theorem test_decode_secondary_5 :
    ([0b10_100_000, 0b10_100_001, 0b10_100_010, 0b10_100_011, 0b10_100_100, 0b10_100_101, 0b10_100_110, 0b10_100_111,
      0b10_101_000, 0b10_101_001, 0b10_101_010, 0b10_101_011, 0b10_101_100, 0b10_101_101, 0b10_101_110, 0b10_101_111,
      0b10_110_000, 0b10_110_001, 0b10_110_010, 0b10_110_011, 0b10_110_100, 0b10_110_101, 0b10_110_110, 0b10_110_111,
      0b10_111_000, 0b10_111_001, 0b10_111_010, 0b10_111_011, 0b10_111_100, 0b10_111_101, 0b10_111_110, 0b10_111_111]
    ).map (fun op => decode3 0xCB op 0x12) =
    [.res_4_B, .res_4_C, .res_4_D, .res_4_E, .res_4_H, .res_4_L, .res_4_mHL, .res_4_A, .res_5_B, .res_5_C, .res_5_D,
     .res_5_E, .res_5_H, .res_5_L, .res_5_mHL, .res_5_A, .res_6_B, .res_6_C, .res_6_D, .res_6_E, .res_6_H, .res_6_L,
     .res_6_mHL, .res_6_A, .res_7_B, .res_7_C, .res_7_D, .res_7_E, .res_7_H, .res_7_L, .res_7_mHL, .res_7_A] := rfl

theorem test_decode_secondary_6 :
    ([0b11_000_000, 0b11_000_001, 0b11_000_010, 0b11_000_011, 0b11_000_100, 0b11_000_101, 0b11_000_110, 0b11_000_111,
      0b11_001_000, 0b11_001_001, 0b11_001_010, 0b11_001_011, 0b11_001_100, 0b11_001_101, 0b11_001_110, 0b11_001_111,
      0b11_010_000, 0b11_010_001, 0b11_010_010, 0b11_010_011, 0b11_010_100, 0b11_010_101, 0b11_010_110, 0b11_010_111,
      0b11_011_000, 0b11_011_001, 0b11_011_010, 0b11_011_011, 0b11_011_100, 0b11_011_101, 0b11_011_110, 0b11_011_111]
    ).map (fun op => decode3 0xCB op 0x12) =
    [.set_0_B, .set_0_C, .set_0_D, .set_0_E, .set_0_H, .set_0_L, .set_0_mHL, .set_0_A, .set_1_B, .set_1_C, .set_1_D,
     .set_1_E, .set_1_H, .set_1_L, .set_1_mHL, .set_1_A, .set_2_B, .set_2_C, .set_2_D, .set_2_E, .set_2_H, .set_2_L,
     .set_2_mHL, .set_2_A, .set_3_B, .set_3_C, .set_3_D, .set_3_E, .set_3_H, .set_3_L, .set_3_mHL, .set_3_A] := rfl

theorem test_decode_secondary_7 :
    ([0b11_100_000, 0b11_100_001, 0b11_100_010, 0b11_100_011, 0b11_100_100, 0b11_100_101, 0b11_100_110, 0b11_100_111,
      0b11_101_000, 0b11_101_001, 0b11_101_010, 0b11_101_011, 0b11_101_100, 0b11_101_101, 0b11_101_110, 0b11_101_111,
      0b11_110_000, 0b11_110_001, 0b11_110_010, 0b11_110_011, 0b11_110_100, 0b11_110_101, 0b11_110_110, 0b11_110_111,
      0b11_111_000, 0b11_111_001, 0b11_111_010, 0b11_111_011, 0b11_111_100, 0b11_111_101, 0b11_111_110, 0b11_111_111]
    ).map (fun op => decode3 0xCB op 0x12) =
    [.set_4_B, .set_4_C, .set_4_D, .set_4_E, .set_4_H, .set_4_L, .set_4_mHL, .set_4_A, .set_5_B, .set_5_C, .set_5_D,
     .set_5_E, .set_5_H, .set_5_L, .set_5_mHL, .set_5_A, .set_6_B, .set_6_C, .set_6_D, .set_6_E, .set_6_H, .set_6_L,
     .set_6_mHL, .set_6_A, .set_7_B, .set_7_C, .set_7_D, .set_7_E, .set_7_H, .set_7_L, .set_7_mHL, .set_7_A] := rfl

/-- A list that ends inside an instruction is refused by name. -/
theorem test_decode_truncated :
    decode [] = .error (.truncated 0 1) ∧ decode [0xCB] = .error (.truncated 1 2)
    ∧ decode [0xC3, 0x00] = .error (.truncated 2 3) := ⟨rfl, rfl, rfl⟩

theorem test_encode_written_out :
    encode (.jp_NC_n16 0x1234) = [0b110_10_010, 0x34, 0x12] ∧ encode .res_7_mHL = [0b1100_1011, 0b10_111_110]
    ∧ encode (.ldh_A_mN8 0x80) = [0b111_10_000, 0x80] ∧ encode .push_DE = [0b11_01_0101] := ⟨rfl, rfl, rfl, rfl⟩

/-- The opcode table's numbering: the first byte lowest, but the escape byte above the byte it escapes. -/
theorem test_decodeTableWord :
    decodeTableWord 8 0x76 = some .halt ∧ decodeTableWord 24 0x1234CD = some (.call_n16 0x1234)
    ∧ decodeTableWord 16 0x5A3E = some (.ld_A_n8 0x5A) ∧ decodeTableWord 16 0xCBFF = some .set_7_A
    ∧ decodeTableWord 16 0xCBCB = some .set_1_E ∧ decodeTableWord 32 0 = none := by decide

theorem test_withFetchWord_primary :
    look (fun t => (t.pc, t.sp, t.wait, t.accesses.head?)) (step (State.reset.withFetchWord 24 0x1234CD)) =
      some (0x1234, 0xFFFE, 5, some (.fetch 0x0000 0xCD)) := by decide

theorem test_withFetchWord_secondary :
    look (fun t => (t.regs.a, t.pc)) (step (State.reset.withFetchWord 16 0xCBFF)) = some (0x80, 0x0002) := by decide

theorem test_withFetchWord_illegal :
    faultOf (step (State.reset.withFetchWord 8 0xFD)) = some (.illegalOpcode 0xFD 0x0000) := by decide

/-! ### The source's own examples (95_test_vectors.md section 1) -/

/-- E2. -/
theorem test_E2 : Bits.make16 (Bits.extract (0xBEEF : Word) 8 8) (Bits.clip 8 (0xBEEF : Word)) = 0xBEEF := by decide

/-- E3 to E6. -/
theorem test_E3_to_E6 :
    [aluAdd 0x0C 0x0E false, aluAdd 0x0C 0x0E true, aluAdd 0x38 0x4E false, aluAdd 0xF5 0x3D false].map
        (fun x => (x.value, x.flags.toByte)) = [(0x1A, 0x20), (0x1B, 0x20), (0x86, 0x20), (0x32, 0x30)] := by decide

/-- E7 to E11. -/
theorem test_E7_to_E11 :
    [aluSub 0xD6 0x55 false, aluSub 0x0F 0xF0 false, aluAnd 0x9A 0xD9, aluOr 0x9A 0xD9, aluXor 0x9A 0xD9].map
        (fun x => (x.value, x.flags.toByte)) =
      [(0x81, 0x40), (0x1F, 0x50), (0x98, 0x20), (0xDB, 0x00), (0x43, 0x00)] := by decide

/-- E12. -/
theorem test_E12 : (aluRotate .left (aluRotate .right 0x81).value).value = 0x81 := by decide

/-- E14: of two components that both own an address the one attached first answers. -/
theorem test_E14 :
    State.byteAt { base with before := [.rom 0xC000 0xC0FF [(0xC010, 0x11)], .ram 0xC000 0xCFFF [(0xC010, 0x22)]] }
      0xC010 = 0x11 := by decide

/-- E15, cycle 0 of trace S1: bit 0 is served first, only it is cleared, and bit 2 stays pending. -/
theorem test_E15 :
    look (fun t => (t.pc, t.ifr, t.ime, t.wait, t.accesses))
        (step (load [0x00] [] { base with ime := true, ie := 0x05, ifr := 0x05 })) =
      some (0x0040, 0x04, false, 4, [.write 0xCFFF 0x01, .write 0xCFFE 0x00]) := by decide

/-- E16, cycles 1 and 5 of trace S2: a request whose IE bit is clear does not wake CORE, one whose bit is set does. -/
theorem test_E16_stays :
    look (fun t => (t.halted, t.pc, t.ifr)) (step { base with
      halted := true, ie := 0x04, inputs := [{ reset := false, writes := [], irq := 0b00001 }] }) =
      some (true, 0x0100, 0x01) := by decide

theorem test_E16_wakes :
    look (fun t => (t.halted, t.pc, t.regs.a, t.ifr)) (step { load [0x3C] [] base with
      halted := true, ie := 0x04, inputs := [{ reset := false, writes := [], irq := 0b00100 }] }) =
      some (false, 0x0101, 0x01, 0x04) := by decide

/-! ### The step machine (95_test_vectors.md section 4) -/

/-- S8: pending and enabled bits 7..5 only. -/
theorem test_S8 :
    faultOf (step { base with ime := true, ie := 0xE0, ifr := 0x20 }) = some (.noInterruptSource 0x20 0x0100) := by decide

/-- S9, cycle 2: another master writes IF, and the bit wakes CORE though it is no source. -/
theorem test_S9 :
    look (fun t => (t.regs.b, t.pc, t.ifr)) (step { load [0x04] [] base with
      halted := true, ie := 0xE0, inputs := [{ reset := false, writes := [(0xFF0F, 0x80)], irq := 0 }] }) =
      some (0x01, 0x0101, 0x80) := by decide

/-- S10, cycle 1: a store to IF wins over a request of the same cycle. -/
theorem test_S10 :
    look (fun t => (t.ifr, t.pc, t.accesses)) (step { load [0xE0, 0x0F] [] base with
      inputs := [{ reset := false, writes := [], irq := 0b00100 }] }) =
      some (0x00, 0x0102, [.fetch 0x0100 0xE0, .fetch 0x0101 0x0F, .write 0xFF0F 0x00]) := by decide

/-- S11: the pushed PC overwrites IE. -/
theorem test_S11 :
    look (fun t => (t.ie, t.byteAt 0xFFFE, t.sp, t.pc)) (step { base with
      sp := 0x0000, pc := 0x1234, ime := true, ie := 0x01, ifr := 0x01 }) = some (0x12, 0x34, 0xFFFE, 0x0040) := by
  decide

/-- A busy cycle, with a request that is recorded (S4, cycle 1). -/
theorem test_S4_busy :
    look (fun t => (t.wait, t.ifr, t.pc, t.accesses)) (step { base with
      wait := 5, ime := true, ie := 0x01, inputs := [{ reset := false, writes := [], irq := 0b00001 }] }) =
      some (4, 0x01, 0x0100, []) := by decide

/-- The reset line (R560): CORE's state goes, the platform's stays. -/
theorem test_reset_line :
    look (fun t => (t.sp, t.pc, t.ie, t.byteAt 0xFF80, t.byteAt 0xC000)) (step { load [] [(0xFF80, 1), (0xC000, 2)] base with
      ie := 0x1F, inputs := [{ reset := true, writes := [], irq := 0 }] }) = some (0, 0, 0, 0, 2) := by decide

/-- A read that nobody answers (R103), and a write that nobody takes. -/
theorem test_open_bus :
    ({ base with after := [] } : State).byteAt 0x1234 = 0xFF
    ∧ (({ base with after := [] } : State).busWrite 0x1234 0x56).byteAt 0x1234 = 0xFF := by decide

/-- A ROM ignores writes; the RAM behind it takes them (R104). -/
theorem test_rom :
    (({ base with before := [.rom 0x0000 0x7FFF [(0, 0x31)]] } : State).busWrite 0x0000 0x99).byteAt 0x0000 = 0x31
    ∧ (({ base with before := [.rom 0x0000 0x7FFF [(0, 0x31)]] } : State).busWrite 0x0000 0x99).after
        = [.ram 0x0000 0xFFFF [(0, 0x99)]] := by decide

/-- The canonical form: entries stay sorted, and writing the unwritten byte removes one. -/
theorem test_memory_canonical :
    (((Memory.write [] 5 0x11).write 3 0x22).write 9 0x33).write 5 0x00 = [(3, 0x22), (9, 0x33)] := by decide

/-! ### One instruction at a time (95_test_vectors.md section 3): named after the rule -/

/-- LD B,C (R250). -/
theorem test_R250 :
    look (fun t => (t.regs.b, t.pc, t.wait)) (step (load [0x41] []
      { base with regs := { base.regs with c := 0x5A } })) =
    some (0x5A, 0x0101, 0) := by decide

/-- LD B,$AB (R251). -/
theorem test_R251 :
    look (fun t => (t.regs.b, t.pc, t.wait)) (step (load [0x06, 0xAB] []
      base)) =
    some (0xAB, 0x0102, 1) := by decide

/-- LD H,[HL]: address from the old HL (R252). -/
theorem test_R252 :
    look (fun t => (t.regs.h, t.pc, t.wait)) (step (load [0x66] [(0xC123, 0x80)]
      { base with regs := { base.regs with h := 0xC1, l := 0x23 } })) =
    some (0x80, 0x0101, 1) := by decide

/-- LD [HL],A writes IE (and the RAM behind it) (R253). -/
theorem test_R253 :
    look (fun t => (t.pc, t.ie, t.wait)) (step (load [0x77] []
      { base with regs := { base.regs with a := 0x1F, h := 0xFF, l := 0xFF } })) =
    some (0x0101, 0x1F, 1) := by decide

/-- LD [HL],$5C into the fast RAM (R254). -/
theorem test_R254 :
    look (fun t => (t.pc, t.byteAt 0xFF80, t.wait)) (step (load [0x36, 0x5C] []
      { base with regs := { base.regs with h := 0xFF, l := 0x80 } })) =
    some (0x0102, 0x5C, 2) := by decide

/-- LD A,[BC] (R255). -/
theorem test_R255 :
    look (fun t => (t.regs.a, t.pc, t.wait)) (step (load [0x0A] [(0xC010, 0x12)]
      { base with regs := { base.regs with b := 0xC0, c := 0x10 } })) =
    some (0x12, 0x0101, 1) := by decide

/-- LD [BC],A (R257). -/
theorem test_R257 :
    look (fun t => (t.pc, t.byteAt 0xC012, t.wait)) (step (load [0x02] []
      { base with regs := { base.regs with a := 0x56, b := 0xC0, c := 0x12 } })) =
    some (0x0101, 0x56, 1) := by decide

/-- LD A,[$C234]: low operand byte first (R259). -/
theorem test_R259 :
    look (fun t => (t.regs.a, t.pc, t.wait)) (step (load [0xFA, 0x34, 0xC2] [(0xC234, 0xEE)]
      base)) =
    some (0xEE, 0x0103, 3) := by decide

/-- LD [$FFFF],A writes IE (R260). -/
theorem test_R260 :
    look (fun t => (t.pc, t.ie, t.wait)) (step (load [0xEA, 0xFF, 0xFF] []
      { base with regs := { base.regs with a := 0x1F } })) =
    some (0x0103, 0x1F, 3) := by decide

/-- LDH A,[$FF80] (R261). -/
theorem test_R261 :
    look (fun t => (t.regs.a, t.pc, t.wait)) (step (load [0xF0, 0x80] [(0xFF80, 0x6B)]
      base)) =
    some (0x6B, 0x0102, 2) := by decide

/-- LDH [$FF0F],A clears all requests (R262). -/
theorem test_R262 :
    look (fun t => (t.pc, t.ifr, t.wait)) (step (load [0xE0, 0x0F] []
      { base with ifr := 0x1F })) =
    some (0x0102, 0x00, 2) := by decide

/-- LDH A,[C] (R263). -/
theorem test_R263 :
    look (fun t => (t.regs.a, t.pc, t.wait)) (step (load [0xF2] [(0xFF81, 0x3D)]
      { base with regs := { base.regs with c := 0x81 } })) =
    some (0x3D, 0x0101, 1) := by decide

/-- LDH [C],A (R264). -/
theorem test_R264 :
    look (fun t => (t.pc, t.byteAt 0xFFFE, t.wait)) (step (load [0xE2] []
      { base with regs := { base.regs with a := 0x7E, c := 0xFE } })) =
    some (0x0101, 0x7E, 1) := by decide

/-- LD A,[HL+]: HL wraps to 0 (R265). -/
theorem test_R265 :
    look (fun t => (t.regs.a, t.regs.h, t.regs.l, t.pc, t.wait)) (step (load [0x2A] []
      { base with regs := { base.regs with h := 0xFF, l := 0xFF }, ie := 0x0A })) =
    some (0x0A, 0x00, 0x00, 0x0101, 1) := by decide

/-- LD A,[HL-]: borrow from H (R266). -/
theorem test_R266 :
    look (fun t => (t.regs.a, t.regs.h, t.regs.l, t.pc, t.wait)) (step (load [0x3A] [(0xC100, 0x22)]
      { base with regs := { base.regs with h := 0xC1 } })) =
    some (0x22, 0xC0, 0xFF, 0x0101, 1) := by decide

/-- LD [HL+],A (R267). -/
theorem test_R267 :
    look (fun t => (t.regs.h, t.regs.l, t.pc, t.byteAt 0xC1FF, t.wait)) (step (load [0x22] []
      { base with regs := { base.regs with a := 0x44, h := 0xC1, l := 0xFF } })) =
    some (0xC2, 0x00, 0x0101, 0x44, 1) := by decide

/-- LD [HL-],A (R268). -/
theorem test_R268 :
    look (fun t => (t.regs.h, t.regs.l, t.pc, t.byteAt 0xC200, t.wait)) (step (load [0x32] []
      { base with regs := { base.regs with a := 0x55, h := 0xC2 } })) =
    some (0xC1, 0xFF, 0x0101, 0x55, 1) := by decide

/-- LD BC,$1234 (R300). -/
theorem test_R300 :
    look (fun t => (t.regs.b, t.regs.c, t.pc, t.wait)) (step (load [0x01, 0x34, 0x12] []
      base)) =
    some (0x12, 0x34, 0x0103, 2) := by decide

/-- LD [$FFFF],SP: low byte to IE, high byte wraps to 0x0000 (R301). -/
theorem test_R301 :
    look (fun t => (t.pc, t.ie, t.byteAt 0x0000, t.wait)) (step (load [0x08, 0xFF, 0xFF] []
      { base with sp := 0xABCD })) =
    some (0x0103, 0xCD, 0xAB, 4) := by decide

/-- LD SP,HL (R302). -/
theorem test_R302 :
    look (fun t => (t.sp, t.pc, t.wait)) (step (load [0xF9] []
      { base with regs := { base.regs with h := 0xC0, l := 0xDE } })) =
    some (0xC0DE, 0x0101, 1) := by decide

/-- PUSH DE at reset SP: writes IE and 0xFFFE (R303). -/
theorem test_R303 :
    look (fun t => (t.sp, t.pc, t.ie, t.byteAt 0xFFFE, t.wait)) (step (load [0xD5] []
      { base with regs := { base.regs with d := 0x1F, e := 0x2E }, sp := 0x0000 })) =
    some (0xFFFE, 0x0101, 0x1F, 0x2E, 3) := by decide

/-- POP AF: low nibble of F dropped (R304). -/
theorem test_R304_1 :
    look (fun t => (t.regs.a, t.regs.f, t.sp, t.pc, t.wait)) (step (load [0xF1] [(0xD000, 0xFF), (0xD001, 0x12)]
      base)) =
    some (0x12, 0xF0, 0xD002, 0x0101, 2) := by decide

/-- POP HL across the top: low byte from IE, high from 0x0000 (R304). -/
theorem test_R304_2 :
    look (fun t => (t.regs.h, t.regs.l, t.sp, t.pc, t.wait)) (step (load [0xE1] [(0x0000, 0xAB)]
      { base with sp := 0xFFFF, ie := 0x1B })) =
    some (0xAB, 0x1B, 0x0001, 0x0101, 2) := by decide

/-- ADD A,B: zero with both carries (R330). -/
theorem test_R330 :
    look (fun t => (t.regs.a, t.regs.f, t.pc, t.wait)) (step (load [0x80] []
      { base with regs := { base.regs with a := 0x3A, b := 0xC6 } })) =
    some (0x00, 0xB0, 0x0101, 0) := by decide

/-- ADC A,E (R333). -/
theorem test_R333 :
    look (fun t => (t.regs.a, t.regs.f, t.pc, t.wait)) (step (load [0x8B] []
      { base with regs := { base.regs with a := 0xE1, f := 0x10, e := 0x0F } })) =
    some (0xF1, 0x20, 0x0101, 0) := by decide

/-- ADC A,[HL] (R334). -/
theorem test_R334 :
    look (fun t => (t.regs.a, t.regs.f, t.pc, t.wait)) (step (load [0x8E] [(0xC000, 0x1E)]
      { base with regs := { base.regs with a := 0xE1, f := 0x10, h := 0xC0 } })) =
    some (0x00, 0xB0, 0x0101, 1) := by decide

/-- SUB A,E (R336). -/
theorem test_R336 :
    look (fun t => (t.regs.a, t.regs.f, t.pc, t.wait)) (step (load [0x93] []
      { base with regs := { base.regs with a := 0x3E, e := 0x3E } })) =
    some (0x00, 0xC0, 0x0101, 0) := by decide

/-- SBC A,[HL] (R340). -/
theorem test_R340 :
    look (fun t => (t.regs.a, t.regs.f, t.pc, t.wait)) (step (load [0x9E] [(0xC000, 0x4F)]
      { base with regs := { base.regs with a := 0x3B, f := 0x10, h := 0xC0 } })) =
    some (0xEB, 0x70, 0x0101, 1) := by decide

/-- AND A,A on zero (R342). -/
theorem test_R342 :
    look (fun t => (t.regs.f, t.pc, t.wait)) (step (load [0xA7] []
      { base with regs := { base.regs with f := 0x10 } })) =
    some (0xA0, 0x0101, 0) := by decide

/-- XOR A,B (R345). -/
theorem test_R345 :
    look (fun t => (t.regs.a, t.pc, t.wait)) (step (load [0xA8] []
      { base with regs := { base.regs with a := 0xFF, b := 0x0F } })) =
    some (0xF0, 0x0101, 0) := by decide

/-- OR A,C (R348). -/
theorem test_R348 :
    look (fun t => (t.regs.a, t.pc, t.wait)) (step (load [0xB1] []
      { base with regs := { base.regs with a := 0x5A, c := 0x05 } })) =
    some (0x5F, 0x0101, 0) := by decide

/-- CP A,B: A kept (R351). -/
theorem test_R351 :
    look (fun t => (t.regs.f, t.pc, t.wait)) (step (load [0xB8] []
      { base with regs := { base.regs with a := 0x3C, b := 0x2F } })) =
    some (0x60, 0x0101, 0) := by decide

/-- INC A: wraps, C kept (R354). -/
theorem test_R354 :
    look (fun t => (t.regs.a, t.regs.f, t.pc, t.wait)) (step (load [0x3C] []
      { base with regs := { base.regs with a := 0xFF, f := 0x10 } })) =
    some (0x00, 0xB0, 0x0101, 0) := by decide

/-- INC [HL] wraps (R355). -/
theorem test_R355 :
    look (fun t => (t.regs.f, t.pc, t.byteAt 0xC000, t.wait)) (step (load [0x34] [(0xC000, 0xFF)]
      { base with regs := { base.regs with f := 0x10, h := 0xC0 } })) =
    some (0xB0, 0x0101, 0x00, 2) := by decide

/-- DEC B wraps (R356). -/
theorem test_R356 :
    look (fun t => (t.regs.f, t.regs.b, t.pc, t.wait)) (step (load [0x05] []
      base)) =
    some (0x60, 0xFF, 0x0101, 0) := by decide

/-- DAA after 0x45 + 0x38 (R358). -/
theorem test_R358_1 :
    look (fun t => (t.regs.a, t.pc, t.wait)) (step (load [0x27] []
      { base with regs := { base.regs with a := 0x7D } })) =
    some (0x83, 0x0101, 0) := by decide

/-- DAA after 0x83 - 0x38 (R358). -/
theorem test_R358_2 :
    look (fun t => (t.regs.a, t.regs.f, t.pc, t.wait)) (step (load [0x27] []
      { base with regs := { base.regs with a := 0x4B, f := 0x60 } })) =
    some (0x45, 0x40, 0x0101, 0) := by decide

/-- CPL (R359). -/
theorem test_R359 :
    look (fun t => (t.regs.a, t.regs.f, t.pc, t.wait)) (step (load [0x2F] []
      { base with regs := { base.regs with a := 0x35, f := 0x90 } })) =
    some (0xCA, 0xF0, 0x0101, 0) := by decide

/-- SCF (R360). -/
theorem test_R360 :
    look (fun t => (t.regs.f, t.pc, t.wait)) (step (load [0x37] []
      { base with regs := { base.regs with f := 0xE0 } })) =
    some (0x90, 0x0101, 0) := by decide

/-- CCF 0 to 1 (R361). -/
theorem test_R361 :
    look (fun t => (t.regs.f, t.pc, t.wait)) (step (load [0x3F] []
      { base with regs := { base.regs with f := 0x60 } })) =
    some (0x10, 0x0101, 0) := by decide

/-- ADD HL,DE: carry out of bit 7 is not H (R380). -/
theorem test_R380 :
    look (fun t => (t.regs.f, t.regs.h, t.regs.l, t.pc, t.wait)) (step (load [0x19] []
      { base with regs := { base.regs with f := 0xF0, e := 0x01, l := 0xFF } })) =
    some (0x80, 0x01, 0x00, 0x0101, 1) := by decide

/-- INC BC wraps, flags kept (R381). -/
theorem test_R381 :
    look (fun t => (t.regs.b, t.regs.c, t.pc, t.wait)) (step (load [0x03] []
      { base with regs := { base.regs with f := 0xF0, b := 0xFF, c := 0xFF } })) =
    some (0x00, 0x00, 0x0101, 1) := by decide

/-- DEC SP (R382). -/
theorem test_R382 :
    look (fun t => (t.sp, t.pc, t.wait)) (step (load [0x3B] []
      { base with sp := 0x0000 })) =
    some (0xFFFF, 0x0101, 1) := by decide

/-- ADD SP,-1: flags from the unsigned low bytes (R383). -/
theorem test_R383 :
    look (fun t => (t.sp, t.pc, t.wait)) (step (load [0xE8, 0xFF] []
      base)) =
    some (0xCFFF, 0x0102, 3) := by decide

/-- LD HL,SP-2 (R384). -/
theorem test_R384 :
    look (fun t => (t.regs.h, t.regs.l, t.pc, t.wait)) (step (load [0xF8, 0xFE] []
      { base with sp := 0x0001 })) =
    some (0xFF, 0xFF, 0x0102, 2) := by decide

/-- RLCA on zero: Z forced 0 (R400). -/
theorem test_R400 :
    look (fun t => (t.regs.f, t.pc, t.wait)) (step (load [0x07] []
      { base with regs := { base.regs with f := 0xF0 } })) =
    some (0x00, 0x0101, 0) := by decide

/-- RRCA (R401). -/
theorem test_R401 :
    look (fun t => (t.regs.a, t.regs.f, t.pc, t.wait)) (step (load [0x0F] []
      { base with regs := { base.regs with a := 0x3B } })) =
    some (0x9D, 0x10, 0x0101, 0) := by decide

/-- RLA (R402). -/
theorem test_R402 :
    look (fun t => (t.regs.a, t.pc, t.wait)) (step (load [0x17] []
      { base with regs := { base.regs with a := 0x95, f := 0x10 } })) =
    some (0x2B, 0x0101, 0) := by decide

/-- RRA: carry enters bit 7 (R403). -/
theorem test_R403 :
    look (fun t => (t.regs.a, t.regs.f, t.pc, t.wait)) (step (load [0x1F] []
      { base with regs := { base.regs with f := 0x10 } })) =
    some (0x80, 0x00, 0x0101, 0) := by decide

/-- RLC B (R404). -/
theorem test_R404 :
    look (fun t => (t.regs.f, t.regs.b, t.pc, t.wait)) (step (load [0xCB, 0x00] []
      { base with regs := { base.regs with b := 0x85 } })) =
    some (0x10, 0x0B, 0x0102, 1) := by decide

/-- RLC [HL] (R405). -/
theorem test_R405 :
    look (fun t => (t.regs.f, t.pc, t.byteAt 0xC000, t.wait)) (step (load [0xCB, 0x06] [(0xC000, 0x80)]
      { base with regs := { base.regs with h := 0xC0 } })) =
    some (0x10, 0x0102, 0x01, 3) := by decide

/-- RL D (R408). -/
theorem test_R408 :
    look (fun t => (t.regs.f, t.regs.d, t.pc, t.wait)) (step (load [0xCB, 0x12] []
      { base with regs := { base.regs with f := 0x10, d := 0x40 } })) =
    some (0x00, 0x81, 0x0102, 1) := by decide

/-- RR [HL] (R411). -/
theorem test_R411 :
    look (fun t => (t.pc, t.byteAt 0xC000, t.wait)) (step (load [0xCB, 0x1E] [(0xC000, 0x8A)]
      { base with regs := { base.regs with h := 0xC0 } })) =
    some (0x0102, 0x45, 3) := by decide

/-- SRA A: sign kept (R414). -/
theorem test_R414 :
    look (fun t => (t.regs.a, t.pc, t.wait)) (step (load [0xCB, 0x2F] []
      { base with regs := { base.regs with a := 0x8A } })) =
    some (0xC5, 0x0102, 1) := by decide

/-- SWAP A: C cleared (R416). -/
theorem test_R416 :
    look (fun t => (t.regs.a, t.regs.f, t.pc, t.wait)) (step (load [0xCB, 0x37] []
      { base with regs := { base.regs with a := 0xF1, f := 0xF0 } })) =
    some (0x1F, 0x00, 0x0102, 1) := by decide

/-- SRL [HL] (R419). -/
theorem test_R419 :
    look (fun t => (t.regs.f, t.pc, t.byteAt 0xC000, t.wait)) (step (load [0xCB, 0x3E] [(0xC000, 0xFF)]
      { base with regs := { base.regs with h := 0xC0 } })) =
    some (0x10, 0x0102, 0x7F, 3) := by decide

/-- BIT 4,L (R420). -/
theorem test_R420 :
    look (fun t => (t.regs.f, t.pc, t.wait)) (step (load [0xCB, 0x65] []
      { base with regs := { base.regs with l := 0xEF } })) =
    some (0xA0, 0x0102, 1) := by decide

/-- BIT 0,[HL]: no write (R421). -/
theorem test_R421 :
    look (fun t => (t.regs.f, t.pc, t.wait)) (step (load [0xCB, 0x46] [(0xC000, 0xFE)]
      { base with regs := { base.regs with h := 0xC0 } })) =
    some (0xA0, 0x0102, 2) := by decide

/-- RES 0,[HL] on IF: atomic acknowledge (R423). -/
theorem test_R423 :
    look (fun t => (t.pc, t.ifr, t.wait)) (step (load [0xCB, 0x86] []
      { base with regs := { base.regs with h := 0xFF, l := 0x0F }, ifr := 0x05 })) =
    some (0x0102, 0x04, 3) := by decide

/-- SET 7,L (R424). -/
theorem test_R424 :
    look (fun t => (t.regs.l, t.pc, t.wait)) (step (load [0xCB, 0xFD] []
      { base with regs := { base.regs with h := 0x12, l := 0x3B } })) =
    some (0xBB, 0x0102, 1) := by decide

/-- JP $8000 (R450). -/
theorem test_R450 :
    look (fun t => (t.pc, t.wait)) (step (load [0xC3, 0x00, 0x80] []
      base)) =
    some (0x8000, 3) := by decide

/-- JP NZ,$8000 not taken (R451). -/
theorem test_R451_1 :
    look (fun t => (t.pc, t.wait)) (step (load [0xC2, 0x00, 0x80] []
      { base with regs := { base.regs with f := 0x80 } })) =
    some (0x0103, 2) := by decide

/-- JP NZ,$8000 taken (R451). -/
theorem test_R451_2 :
    look (fun t => (t.pc, t.wait)) (step (load [0xC2, 0x00, 0x80] []
      base)) =
    some (0x8000, 3) := by decide

/-- JP HL: no memory read (R452). -/
theorem test_R452 :
    look (fun t => (t.pc, t.wait)) (step (load [0xE9] []
      { base with regs := { base.regs with h := 0xC0, l := 0xDE } })) =
    some (0xC0DE, 0) := by decide

/-- JR +2 at 0xFFFD (code in the fast RAM): wraps to 0x0001 (R453). -/
theorem test_R453 :
    look (fun t => (t.pc, t.wait)) (step (load [0x18, 0x02] []
      { base with pc := 0xFFFD })) =
    some (0x0001, 2) := by decide

/-- JR NZ,-6 taken (R454). -/
theorem test_R454 :
    look (fun t => (t.pc, t.wait)) (step (load [0x20, 0xFA] []
      base)) =
    some (0x00FC, 2) := by decide

/-- CALL with SP = 0: return address over IE and 0xFFFE (R455). -/
theorem test_R455 :
    look (fun t => (t.sp, t.pc, t.ie, t.byteAt 0xFFFE, t.wait)) (step (load [0xCD, 0x00, 0x02] []
      { base with sp := 0x0000 })) =
    some (0xFFFE, 0x0200, 0x01, 0x03, 5) := by decide

/-- CALL NZ not taken: no push (R456). -/
theorem test_R456 :
    look (fun t => (t.pc, t.wait)) (step (load [0xC4, 0x34, 0x12] []
      { base with regs := { base.regs with f := 0x80 } })) =
    some (0x0103, 2) := by decide

/-- RET (R457). -/
theorem test_R457 :
    look (fun t => (t.sp, t.pc, t.wait)) (step (load [0xC9] [(0xD000, 0x03), (0xD001, 0x80)]
      base)) =
    some (0xD002, 0x8003, 3) := by decide

/-- RET NC taken (R458). -/
theorem test_R458 :
    look (fun t => (t.sp, t.pc, t.wait)) (step (load [0xD0] [(0xD000, 0x03), (0xD001, 0x80)]
      base)) =
    some (0xD002, 0x8003, 4) := by decide

/-- RETI: IME set (R459). -/
theorem test_R459 :
    look (fun t => (t.sp, t.pc, t.ime, t.wait)) (step (load [0xD9] [(0xD000, 0x03), (0xD001, 0x80)]
      base)) =
    some (0xD002, 0x8003, true, 3) := by decide

/-- RST $28 (R460). -/
theorem test_R460 :
    look (fun t => (t.sp, t.pc, t.byteAt 0xCFFE, t.byteAt 0xCFFF, t.wait)) (step (load [0xEF] []
      base)) =
    some (0xCFFE, 0x0028, 0x01, 0x01, 3) := by decide

/-- NOP (R480). -/
theorem test_R480 :
    look (fun t => (t.pc, t.wait)) (step (load [0x00] []
      { base with regs := { base.regs with a := 0x12, f := 0xF0 } })) =
    some (0x0101, 0) := by decide

/-- HALT with a request already pending: halts all the same (R481). -/
theorem test_R481 :
    look (fun t => (t.pc, t.halted, t.wait)) (step (load [0x76] []
      { base with ie := 0x01, ifr := 0x01 })) =
    some (0x0101, true, 0) := by decide

/-- `STOP` (R482). -/
theorem test_R482 : faultOf (step (load [0x10] [] base)) = some (.unspecifiedInstruction 0x10 0x0100) := by decide

/-- DI (R483). -/
theorem test_R483 :
    look (fun t => (t.pc, t.ime, t.wait)) (step (load [0xF3] []
      { base with ime := true })) =
    some (0x0101, false, 0) := by decide

/-- EI (R484). -/
theorem test_R484 :
    look (fun t => (t.pc, t.ime, t.wait)) (step (load [0xFB] []
      base)) =
    some (0x0101, true, 0) := by decide

/-- undefined (R485). -/
theorem test_R485 : faultOf (step (load [0xD3] [] base)) = some (.illegalOpcode 0xD3 0x0100) := by decide

/-! ### Witnesses: states and operands that meet the hypotheses of the obligations -/

/-- Each instruction is of the form beside it, and completes in `s`. -/
def completeAs (s : State) (l : List (Instr × Form)) : Bool :=
  l.all fun p => decide (p.1.form = p.2) && isNext (exec p.1 s)

theorem witness_EncodeOfDecode :
    decode [0x06, 0xFF, 0xD3] = .ok (.ld_B_n8 0xFF, [0xD3]) ∧ decode [0xCB, 0xCB] = .ok (.set_1_E, []) := ⟨rfl, rfl⟩

theorem witness_StepRunsDecodedInstruction :
    let s := load [0x08, 0xFF, 0xFF] [] base
    let b := s.beginCycle.wake
    s.input.reset = false ∧ b.halted = false ∧ b.wait = 0 ∧ (b.ime && b.pending) = false
    ∧ decode [b.busRead true b.pc, b.busRead true (b.pc + 1), b.busRead true (b.pc + 2)] =
        .ok (.ld_mN16_SP 0xFFFF, []) := ⟨rfl, rfl, rfl, rfl, rfl⟩

theorem witness_InputsArriveBeforeTheStep :
    ({ base with inputs := [{ reset := false, writes := [], irq := 0b10001 }] } : State).input.writes = []
    ∧ ({ base with inputs := [{ reset := false, writes := [(0xFFFF, 1)], irq := 0 }] } : State).inputs =
        { reset := false, writes := (0xFFFF, 1) :: [], irq := 0 } :: [] := ⟨rfl, rfl⟩

theorem witness_BusyStepsOnlyCountDown :
    let s := { base with wait := 1 }
    let u := { base with wait := 5 }
    s.input.reset = false ∧ s.halted = false ∧ 0 < s.wait ∧ u.inputs = [] ∧ u.halted = false ∧ 0 < u.wait := by decide

/-- A request whose IE bit is 0, another master's write to IE and the RAM that sets no common bit, and a quiet state. -/
theorem witness_HaltedStaysHalted :
    let r := { base with halted := true, ie := 0x0F, inputs := [{ reset := false, writes := [], irq := 0b10000 }] }
    let w := { base with
      halted := true, ifr := 0x01, inputs := [{ reset := false, writes := [(0xFFFF, 0xFE), (0xC000, 1)], irq := 0 }] }
    let s := { base with halted := true, ie := 0xFE, ifr := 0x01 }
    (r.input.reset = false ∧ r.halted = true ∧ (r.beginCycle.ie &&& r.beginCycle.ifr) = 0 ∧ r.beginCycle.ifr = 0x10)
    ∧ (w.input.reset = false ∧ w.halted = true ∧ (w.beginCycle.ie &&& w.beginCycle.ifr) = 0 ∧ w.beginCycle.ie = 0xFE)
    ∧ s.halted = true ∧ s.inputs = [] ∧ (s.ie &&& s.ifr) = 0 := by decide

theorem witness_WakeFallsThrough :
    let s := { base with halted := true, ie := 0x10, inputs := [{ reset := false, writes := [], irq := 0b10000 }] }
    s.input.reset = false ∧ s.halted = true ∧ (s.beginCycle.ie &&& s.beginCycle.ifr) ≠ 0 := by decide

/-- Source 0 and source 4, the two ends of the range. -/
theorem witness_InterruptIsTaken :
    let s := { base with ime := true, ie := 0x1F, ifr := 0x01 }
    let u := { base with ime := true, ie := 0x10, ifr := 0x1F }
    (s.input.reset = false ∧ s.halted = false ∧ s.wait = 0 ∧ s.ime = true
      ∧ Bits.test (s.beginCycle.ie &&& s.beginCycle.ifr) IrqSource.vblank.index = true
      ∧ ∀ j : IrqSource, ¬ j.index < IrqSource.vblank.index)
    ∧ u.input.reset = false ∧ u.halted = false ∧ u.wait = 0 ∧ u.ime = true
    ∧ Bits.test (u.beginCycle.ie &&& u.beginCycle.ifr) IrqSource.joypad.index = true
    ∧ ∀ j : IrqSource, j.index < IrqSource.joypad.index →
        Bits.test (u.beginCycle.ie &&& u.beginCycle.ifr) j.index = false := by
  refine ⟨⟨rfl, rfl, rfl, rfl, rfl, fun j => by cases j <;> decide⟩, rfl, rfl, rfl, rfl, rfl, fun j _ => ?_⟩
  cases j <;> first | rfl | contradiction

theorem witness_LowestSourceFirst :
    let s := { base with ie := 0x1F, ifr := 0x05 }
    IrqSource.vblank.index < IrqSource.timer.index
    ∧ Bits.test (s.ie &&& s.ifr) IrqSource.vblank.index = true ∧ Bits.test (s.ie &&& s.ifr) IrqSource.timer.index = true
    ∧ s.sp - 1 ≠ 0xFF0F ∧ s.sp - 2 ≠ 0xFF0F ∧ isNext (dispatchInterrupt s) = true := by decide

theorem witness_NoSourceToDispatch :
    let s := { base with ime := true, ie := 0xE0, ifr := 0x3F }
    s.input.reset = false ∧ s.halted = false ∧ s.wait = 0 ∧ s.ime = true
    ∧ (s.beginCycle.ie &&& s.beginCycle.ifr) ≠ 0 ∧ (s.beginCycle.ie &&& s.beginCycle.ifr) &&& 0x1F = 0 := by decide

/-- The stack in the RAM, and across the top of the address space, over IE. -/
theorem witness_ReturnUndoesEntry :
    let s := { base with ie := 0x01, ifr := 0x01 }
    let u := { base with ie := 0x01, ifr := 0x01, sp := 0x0001 }
    (s.wf = true ∧ s.storageAt (s.sp - 1) = true ∧ s.storageAt (s.sp - 2) = true ∧ isNext (dispatchInterrupt s) = true)
    ∧ u.wf = true ∧ u.storageAt (u.sp - 1) = true ∧ u.storageAt (u.sp - 2) = true
    ∧ isNext (dispatchInterrupt u) = true := by decide

theorem witness_ResetLine :
    ({ base with inputs := [{ reset := true, writes := [(0xFF0F, 0x1F)], irq := 0b11111 }] } : State).input.reset = true :=
  rfl

/-- Each way a step ends: execution, dispatch, busy, halted, reset. -/
theorem witness_StepKeepsInvariant :
    [load [0xCD, 0x34, 0x12] [] base, { base with ime := true, ie := 1, ifr := 1 }, { base with wait := 5 },
      { base with halted := true }, { base with inputs := [{ reset := true, writes := [], irq := 0 }] }].all
      (fun s => s.wf && isNext (step s)) = true := by decide

/-- An instruction with five accesses; then reset, halted with a request that is not enabled, and the last busy step. -/
theorem witness_BoundedBusAccesses :
    look (fun t => t.accesses.length) (step (load [0x08, 0x00, 0xC0] [] base)) = some 5
    ∧ (let s := { base with inputs := [{ reset := true, writes := [(0xC000, 1)], irq := 1 }] }
       s.input.reset = true ∧ isNext (step s) = true)
    ∧ (let s := { base with halted := true, ie := 0x0F, inputs := [{ reset := false, writes := [], irq := 0b10000 }] }
       s.halted = true ∧ (s.beginCycle.ie &&& s.beginCycle.ifr) = 0 ∧ isNext (step s) = true)
    ∧ (let s := { base with wait := 1 }
       s.halted = false ∧ 0 < s.wait ∧ isNext (step s) = true) := by decide

/-- A component before CORE's own, CORE's own, one after it, and nobody. -/
theorem witness_FirstAnswerWins :
    let low := Component.rom 0x0000 0x00FF [(0x10, 0xAA)]
    let k := Component.ram 0xFF80 0xFFFF [(0xFF80, 0xBB)]
    let s := { base with before := [low, k] }
    let u := { base with after := [low, .ram 0x1000 0x1FFF [(0x1000, 0xCC)]] }
    (s.before = [low] ++ k :: [] ∧ low.read s.cycle false 0xFF80 = none ∧ k.read s.cycle false 0xFF80 = some 0xBB)
    ∧ (base.before = [] ∧ base.coreRead 0xFF0F = some 0)
    ∧ (u.before = [] ∧ u.coreRead 0x1000 = none ∧ low.read u.cycle false 0x1000 = none
        ∧ (Component.ram 0x1000 0x1FFF [(0x1000, 0xCC)]).read u.cycle false 0x1000 = some 0xCC)
    ∧ u.coreRead 0x2000 = none ∧ ∀ x ∈ u.after, x.read u.cycle false 0x2000 = none := by decide

/-- The bounds of CORE's own ranges, and the addresses next to them. -/
theorem witness_CoreDecoder :
    base.wf = true
    ∧ (0xFF80 ≤ (0xFF80 : Word).toNat ∧ (0xFF80 : Word).toNat ≤ 0xFFFE)
    ∧ (0xFF80 ≤ (0xFFFE : Word).toNat ∧ (0xFFFE : Word).toNat ≤ 0xFFFE)
    ∧ ((0xFF7F : Word) ≠ 0xFFFF ∧ (0xFF7F : Word) ≠ 0xFF0F ∧ (0xFF7F : Word).toNat < 0xFF80)
    ∧ ((0xFF10 : Word) ≠ 0xFFFF ∧ (0xFF10 : Word) ≠ 0xFF0F ∧ (0xFF10 : Word).toNat < 0xFF80)
    ∧ (base.coreRead 0xFFFF).isSome = true ∧ (base.coreRead 0xFF0F).isSome = true
    ∧ (base.coreRead 0xFF80).isSome = true := by decide

theorem witness_StorageReadsBack :
    [0x0000, 0xFF0F, 0xFF80, 0xFFFE, 0xFFFF].all (fun a => base.wf && base.storageAt a) = true := by decide

theorem witness_EveryComponentReceivesTheWrite : (0x1235 : Word) ≠ 0x1234 := by decide

theorem witness_ShiftFunctions : 0 < 8 ∧ 7 < 8 := by decide

theorem witness_LoadRegister :
    completeAs base [(.ld_B_C, .ldR8R8 .B .C), (.ld_A_A, .ldR8R8 .A .A), (.ld_H_n8 0xFF, .ldR8N8 .H 0xFF)] = true := by
  decide

theorem witness_LoadByteFromMemory :
    completeAs base [(.ld_L_mHL, .ldR8HL .L), (.ld_A_mBC, .ldABC), (.ld_A_mDE, .ldADE), (.ld_A_mN16 0xFFFF, .ldAN16 0xFFFF),
      (.ldh_A_mN8 0xFF, .ldhAN8 0xFF), (.ldh_A_mC, .ldhAC), (.ld_A_mHLinc, .ldAHLInc), (.ld_A_mHLdec, .ldAHLDec)] = true := by
  decide

theorem witness_StoreByteToMemory :
    completeAs base [(.ld_mHL_L, .ldHLR8 .L), (.ld_mHL_n8 0xFF, .ldHLN8 0xFF), (.ld_mBC_A, .ldBCA), (.ld_mDE_A, .ldDEA),
      (.ld_mN16_A 0xFFFF, .ldN16A 0xFFFF), (.ldh_mN8_A 0x00, .ldhN8A 0x00), (.ldh_mC_A, .ldhCA),
      (.ld_mHLinc_A, .ldHLIncA), (.ld_mHLdec_A, .ldHLDecA)] = true := by decide

theorem witness_LoadPair :
    completeAs base [(.ld_BC_n16 0, .ldR16N16 .BC 0), (.ld_DE_n16 1, .ldR16N16 .DE 1), (.ld_HL_n16 0x8000, .ldR16N16 .HL 0x8000),
      (.ld_SP_n16 0xFFFF, .ldR16N16 .SP 0xFFFF), (.ld_SP_HL, .ldSPHL)] = true := by decide

theorem witness_StorePair :
    completeAs { base with sp := 0x0001 } [(.ld_mN16_SP 0xFFFF, .ldN16SP 0xFFFF), (.push_AF, .push .AF), (.push_HL, .push .HL)]
      = true := by decide

theorem witness_PopPair :
    completeAs { base with sp := 0xFFFF } [(.pop_AF, .pop .AF), (.pop_BC, .pop .BC), (.pop_DE, .pop .DE), (.pop_HL, .pop .HL)]
      = true := by decide

theorem witness_AccumulatorRegister :
    completeAs base [(.add_A_B, .aluR8 .ADD .B), (.adc_A_C, .aluR8 .ADC .C), (.sub_A_D, .aluR8 .SUB .D),
      (.sbc_A_A, .aluR8 .SBC .A), (.and_A_E, .aluR8 .AND .E), (.xor_A_A, .aluR8 .XOR .A), (.or_A_H, .aluR8 .OR .H),
      (.cp_A_L, .aluR8 .CP .L)] = true := by decide

theorem witness_AccumulatorMemory :
    completeAs base [(.add_A_mHL, .aluHL .ADD), (.adc_A_mHL, .aluHL .ADC), (.sub_A_mHL, .aluHL .SUB), (.sbc_A_mHL, .aluHL .SBC),
      (.and_A_mHL, .aluHL .AND), (.xor_A_mHL, .aluHL .XOR), (.or_A_mHL, .aluHL .OR), (.cp_A_mHL, .aluHL .CP)] = true := by
  decide

theorem witness_AccumulatorImmediate :
    completeAs base [(.add_A_n8 0, .aluN8 .ADD 0), (.adc_A_n8 0xFF, .aluN8 .ADC 0xFF), (.sub_A_n8 1, .aluN8 .SUB 1),
      (.sbc_A_n8 0xFF, .aluN8 .SBC 0xFF), (.and_A_n8 0, .aluN8 .AND 0), (.xor_A_n8 1, .aluN8 .XOR 1),
      (.or_A_n8 2, .aluN8 .OR 2), (.cp_A_n8 0xFF, .aluN8 .CP 0xFF)] = true := by decide

theorem witness_IncrementDecrementByte :
    completeAs base [(.inc_B, .incR8 .B), (.dec_A, .decR8 .A), (.inc_mHL, .incHL), (.dec_mHL, .decHL)] = true := by decide

theorem witness_AccumulatorAdjustments :
    completeAs base [(.daa, .daa), (.cpl, .cpl), (.scf, .scf), (.ccf, .ccf)] = true := by decide

theorem witness_WideArithmetic :
    completeAs { base with sp := 0xFFFF } [(.add_HL_SP, .addHLR16 .SP), (.add_HL_HL, .addHLR16 .HL), (.inc_SP, .incR16 .SP),
      (.dec_BC, .decR16 .BC), (.add_SP_e8 0x80, .addSPE8 0x80), (.ld_HL_SPe8 0x7F, .ldHLSPE8 0x7F)] = true := by decide

theorem witness_RotateShiftRegister :
    completeAs base [(.rlca, .accRot .RLCA), (.rrca, .accRot .RRCA), (.rla, .accRot .RLA), (.rra, .accRot .RRA),
      (.rlc_B, .shiftR8 .RLC .B), (.rrc_C, .shiftR8 .RRC .C), (.rl_D, .shiftR8 .RL .D), (.rr_E, .shiftR8 .RR .E),
      (.sla_H, .shiftR8 .SLA .H), (.sra_L, .shiftR8 .SRA .L), (.swap_A, .shiftR8 .SWAP .A), (.srl_B, .shiftR8 .SRL .B)]
      = true := by decide

theorem witness_RotateShiftMemory :
    completeAs base [(.rlc_mHL, .shiftHL .RLC), (.rrc_mHL, .shiftHL .RRC), (.rl_mHL, .shiftHL .RL), (.rr_mHL, .shiftHL .RR),
      (.sla_mHL, .shiftHL .SLA), (.sra_mHL, .shiftHL .SRA), (.swap_mHL, .shiftHL .SWAP), (.srl_mHL, .shiftHL .SRL)]
      = true := by decide

theorem witness_BitTest :
    completeAs base [(.bit_0_B, .bitR8 0 .B), (.bit_7_A, .bitR8 7 .A), (.bit_0_mHL, .bitHL 0), (.bit_7_mHL, .bitHL 7)]
      = true := by decide

theorem witness_BitResetAndSet :
    completeAs base [(.res_0_B, .resR8 0 .B), (.set_7_A, .setR8 7 .A), (.res_7_mHL, .resHL 7), (.set_0_mHL, .setHL 0)]
      = true := by decide

/-- Both outcomes of a condition: Z and C clear in `base`, set in the second state. -/
theorem witness_Jumps :
    completeAs base [(.jp_n16 0xFFFF, .jpN16 0xFFFF), (.jp_NZ_n16 1, .jpCC .NZ 1), (.jp_C_n16 1, .jpCC .C 1), (.jp_HL, .jpHL),
      (.jr_e8 0x80, .jrE8 0x80), (.jr_NC_e8 0x7F, .jrCC .NC 0x7F), (.jr_Z_e8 0xFF, .jrCC .Z 0xFF)] = true
    ∧ base.cond .NZ = true ∧ base.cond .NC = true ∧ base.cond .Z = false ∧ base.cond .C = false
    ∧ (let s := { base with regs := { base.regs with f := 0x90 } }
       s.cond .NZ = false ∧ s.cond .NC = false ∧ s.cond .Z = true ∧ s.cond .C = true) := by decide

theorem witness_CallsAndRestarts :
    completeAs { base with sp := 0x0000 } [(.call_n16 0x1234, .callN16 0x1234), (.call_NZ_n16 1, .callCC .NZ 1),
      (.call_Z_n16 1, .callCC .Z 1), (.rst_00, .rst 0), (.rst_38, .rst 7)] = true
    ∧ base.cond .NZ = true ∧ base.cond .Z = false := by decide

theorem witness_Returns :
    completeAs { base with sp := 0xFFFF } [(.ret, .ret), (.ret_NC, .retCC .NC), (.ret_C, .retCC .C), (.reti, .reti)] = true
    ∧ base.cond .NC = true ∧ base.cond .C = false := by decide

theorem witness_StopAndIllegalFault :
    Instr.form .stop = .stop ∧ Instr.form .illegal_D3 = .illegal 0xD3 ∧ Instr.form .illegal_FD = .illegal 0xFD :=
  ⟨rfl, rfl, rfl⟩

theorem witness_EveryOtherInstructionCompletes :
    Instr.wellFormed .ei = true ∧ Instr.ei ≠ .stop := by decide

/-- One instruction of each case of `WhoWritesIme`, `OnlyListedFormsTouchFlags` and `CostAndLength` completes. -/
theorem witness_exec_next :
    [Instr.di, .ei, .reti, .nop, .halt, .add_A_B, .pop_AF, .pop_BC, .jp_n16 0x1234, .jr_NZ_e8 0x05, .call_C_n16 0x1234,
      .ret_Z, .rst_38].all (fun i => isNext (exec i base)) = true := by decide

theorem witness_InterruptRegistersChangeByBusWrites :
    look (fun t => (t.ie, t.accesses)) (exec (.ld_mN16_A 0xFFFF) { base with regs := { base.regs with a := 7 } }) =
      some (0x07, [.write 0xFFFF 0x07])
    ∧ look (fun t => (t.ifr, t.accesses)) (exec (.ld_mN16_A 0xFF0F) { base with regs := { base.regs with a := 7 } }) =
      some (0x07, [.write 0xFF0F 0x07]) := by decide

/-- The stack in the RAM; and wrapped, with a byte of it on IE. -/
theorem witness_PushThenPopCopies :
    Instr.form (.ld_SP_n16 0xD000) = .ldR16N16 .SP 0xD000 ∧ Instr.form .push_AF = .push .AF
    ∧ Instr.form .pop_DE = .pop .DE ∧ Pair.DE ≠ .AF ∧ base.wf = true
    ∧ base.storageAt (0xD000 - 1) = true ∧ base.storageAt (0xD000 - 2) = true
    ∧ base.storageAt (0x0001 - 1) = true ∧ base.storageAt (0x0001 - 2) = true := by decide

end Sys2Proof.Tests
end

section
/-! PROOFS. What an instruction that completes can do, said once: a chain of edits of the data (registers, SP, bus
accesses), then one ending that writes PC, IME, the halted flag and the wait counter. The rules of the whole machine
follow by induction over the chain. -/

namespace Sys2Proof.Proofs

open Sys2Proof.Machine Sys2Proof.Laws

/-! ### The edits of the data -/

/-- `u` comes from `s` by register writes, SP writes, bus reads and bus writes: the only ways in which an instruction
touches the data. -/
inductive Edits (s : State) : State → Prop where
  | refl : Edits s s
  | setReg {u : State} (h : Edits s u) (r : Reg) (v : Byte) : Edits s (u.setReg r v)
  | setSp {u : State} (h : Edits s u) (w : Word) : Edits s { u with sp := w }
  | memRead {u : State} (h : Edits s u) (a : Word) : Edits s (u.memRead a).2
  | memWrite {u : State} (h : Edits s u) (a : Word) (v : Byte) : Edits s (u.memWrite a v)

namespace Edits

variable {s u : State}

theorem setPair (h : Edits s u) (q : Pair) (v : Word) : Edits s (u.setPair q v) :=
  (h.setReg (pairSlots q).1 (Bits.high v)).setReg (pairSlots q).2 (Bits.low v)

theorem setFlags (h : Edits s u) (z n hc c : FlagSel) : Edits s (u.setFlags z n hc c) := h.setReg .F _

theorem setR16 (h : Edits s u) (p : R16) (v : Word) : Edits s (u.setR16 p v) := by
  cases p with
  | BC | DE | HL => exact h.setPair _ v
  | SP => exact h.setSp v

theorem rd8 (h : Edits s u) (o : Opd8) : Edits s (u.rd8 o).2 := by
  cases o with
  | reg r => exact h
  | atHL => exact h.memRead _

theorem wr8 (h : Edits s u) (o : Opd8) (v : Byte) : Edits s (u.wr8 o v) := by
  cases o with
  | reg r => exact h.setReg _ v
  | atHL => exact h.memWrite _ v

theorem accumulate (h : Edits s u) (op : AluOp) (y : Byte) : Edits s (accumulate op y u) := by
  unfold Machine.accumulate
  split
  · exact (h.setReg _ _).setFlags ..
  · exact h.setFlags ..

theorem memWrite16 (h : Edits s u) (a v : Word) : Edits s (u.memWrite16 a v) :=
  (h.memWrite a _).memWrite (a + 1) _

theorem push16 (h : Edits s u) (v : Word) : Edits s (u.push16 v) :=
  (((h.setSp _).memWrite _ _).setSp _).memWrite _ _

theorem pop16 (h : Edits s u) : Edits s u.pop16.2 := (((h.memRead _).setSp _).memRead _).setSp _

/-! ### What no edit touches -/

theorem ime_eq (h : Edits s u) : u.ime = s.ime := by
  induction h with
  | refl => rfl
  | setReg _ _ _ ih | setSp _ _ ih | memRead _ _ ih | memWrite _ _ _ ih => exact ih

theorem halted_eq (h : Edits s u) : u.halted = s.halted := by
  induction h with
  | refl => rfl
  | setReg _ _ _ ih | setSp _ _ ih | memRead _ _ ih | memWrite _ _ _ ih => exact ih

/-! ### What every edit keeps -/

/-- Bits 3..0 of F stay zero (R52). -/
theorem f_low (h : Edits s u) (hf : s.regs.f &&& 0x0F = 0) : u.regs.f &&& 0x0F = 0 := by
  induction h with
  | refl => exact hf
  | setReg _ r v ih => exact RegFile.set_f_low _ ih r v
  | setSp _ _ ih | memRead _ _ ih | memWrite _ _ _ ih => exact ih

/-- The fast RAM and the components stay canonical. -/
theorem memWf (h : Edits s u) (hm : s.memWf = true) : u.memWf = true := by
  induction h with
  | refl => exact hm
  | memWrite _ a v ih => exact State.memWf_memWrite ih a v
  | setReg _ _ _ ih | setSp _ _ ih | memRead _ _ ih => exact ih

/-- The record of accesses only grows, and CORE's own component answers differently at an address only where one of the
new accesses is a write there (R108). -/
theorem coreRead_changes_by_write (h : Edits s u) :
    ∃ l, u.accesses = s.accesses ++ l ∧ ∀ a, u.coreRead a ≠ s.coreRead a → ∃ v, BusAccess.write a v ∈ l := by
  induction h with
  | refl => exact ⟨[], by simp, fun a ha => absurd rfl ha⟩
  | setReg _ _ _ ih | setSp _ _ ih => exact ih
  | @memRead u _ a ih =>
    obtain ⟨l, hl, hw⟩ := ih
    refine ⟨l ++ [.read a (u.byteAt a)], by simp [hl], fun x hx => ?_⟩
    obtain ⟨v, hv⟩ := hw x hx
    exact ⟨v, List.mem_append_left _ hv⟩
  | @memWrite u _ a v ih =>
    obtain ⟨l, hl, hw⟩ := ih
    refine ⟨l ++ [.write a v], by simp [hl], fun x hx => ?_⟩
    by_cases hxa : x = a
    · exact ⟨v, by simp [hxa]⟩
    · have hcore : (u.memWrite a v).coreRead x = u.coreRead x := u.coreRead_coreWrite_of_ne hxa v
      obtain ⟨v', hv'⟩ := hw x (hcore ▸ hx)
      exact ⟨v', List.mem_append_left _ hv'⟩

end Edits

/-! ### The ending -/

/-- IME after an instruction of a form, from IME before it: `DI` clears it, `EI` and `RETI` set it (R60). -/
def imeAfter (f : Form) (old : Bool) : Bool :=
  match f with
  | .di => false
  | .ei | .reti => true
  | _ => old

/-- The end of an instruction of form `f`: PC, IME, the halted flag and the wait counter are written, and nothing else.
The wait is that of a cost of at most 6, and 0 when the instruction halts CORE (R504, R481). -/
inductive Ends (f : Form) (u : State) : State → Prop where
  | intro (pc : Word) (halted : Bool) (wait : Nat) (hwait : wait ≤ 5) (hhalted : halted = u.halted ∨ wait = 0) :
      Ends f u { u with pc := pc, ime := imeAfter f u.ime, halted := halted, wait := wait }

/-- If the result `r` of an instruction of form `f` in `s` is a next state, edits of `s` and an ending led to it. -/
def Completes (f : Form) (s : State) (r : Result) : Prop := ∀ t, r = .next t → ∃ u, Edits s u ∧ Ends f u t

namespace Completes

variable {f : Form} {s u t t' : State}

theorem of_ends (h : Edits s u) (he : Ends f u t) : Completes f s (.next t) := by
  rintro _ ⟨⟩
  exact ⟨u, h, he⟩

/-- An instruction that retires from its edited state and does not write IME. -/
theorem retire (h : Edits s u) {pc : Word} {k : Nat} (hk : k - 1 ≤ 5 := by decide)
    (hf : imeAfter f u.ime = u.ime := by rfl) : Completes f s (.next (u.retire pc k)) := by
  have he := Ends.intro (f := f) (u := u) pc u.halted (k - 1) hk (.inl rfl)
  rw [hf] at he
  exact of_ends h he

/-- A conditional instruction completes as the branch it takes. -/
theorem ite {c : Prop} [Decidable c] (ht : Completes f s (.next t)) (he : Completes f s (.next t')) :
    Completes f s (.next (if c then t else t')) := by
  split
  · exact ht
  · exact he

theorem fault (e : Fault) : Completes f s (.fault e) := by
  rintro _ ⟨⟩

end Completes

/-! ### Every form -/

open Edits in
/-- What an instruction of each form does when it completes. -/
theorem execForm_completes (f : Form) (s : State) : Completes f s (execForm f s) := by
  cases f with
  -- 41_load8.md
  | ldR8R8 | ldR8N8 => exact .retire (refl.setReg ..)
  | ldR8HL | ldABC | ldADE | ldAN16 | ldhAN8 | ldhAC => exact .retire ((refl.memRead _).setReg ..)
  | ldHLR8 | ldHLN8 | ldBCA | ldDEA | ldN16A | ldhN8A | ldhCA => exact .retire (refl.memWrite ..)
  | ldAHLInc | ldAHLDec => exact .retire (((refl.memRead _).setReg ..).setPair ..)
  | ldHLIncA | ldHLDecA => exact .retire ((refl.memWrite ..).setPair ..)
  -- 42_load16_stack.md
  | ldR16N16 => exact .retire (refl.setR16 ..)
  | ldN16SP => exact .retire (refl.memWrite16 ..)
  | ldSPHL => exact .retire (refl.setSp _)
  | push => exact .retire (refl.push16 _)
  | pop => exact .retire (refl.pop16.setPair ..)
  -- 43_arith8.md
  | aluR8 | aluN8 => exact .retire (refl.accumulate ..)
  | aluHL => exact .retire ((refl.memRead _).accumulate ..)
  | incR8 | incHL | decR8 | decHL => exact .retire (((refl.rd8 _).wr8 ..).setFlags ..)
  | daa | cpl => exact .retire ((refl.setReg ..).setFlags ..)
  | scf | ccf => exact .retire (refl.setFlags ..)
  -- 44_arith16.md
  | addHLR16 | ldHLSPE8 => exact .retire ((refl.setPair ..).setFlags ..)
  | incR16 | decR16 => exact .retire (refl.setR16 ..)
  | addSPE8 => exact .retire ((refl.setSp _).setFlags ..)
  -- 45_rotate_shift_bit.md
  | accRot => exact .retire ((refl.setReg ..).setFlags ..)
  | shiftR8 | shiftHL => exact .retire (((refl.rd8 _).wr8 ..).setFlags ..)
  | bitR8 | bitHL => exact .retire ((refl.rd8 _).setFlags ..)
  | resR8 | resHL | setR8 | setHL => exact .retire ((refl.rd8 _).wr8 ..)
  -- 46_control_flow.md
  | jpN16 | jpHL | jrE8 => exact .retire refl
  | jpCC | jrCC => exact .ite (.retire refl) (.retire refl)
  | callN16 | rst => exact .retire (refl.push16 _)
  | callCC => exact .ite (.retire (refl.push16 _)) (.retire refl)
  | ret => exact .retire refl.pop16
  | retCC => exact .ite (.retire refl.pop16) (.retire refl)
  | reti => exact .of_ends refl.pop16 (.intro _ _ 3 (by decide) (.inl rfl))
  -- 47_system.md
  | nop => exact .retire refl
  | halt => exact .of_ends refl (.intro _ true 0 (by decide) (.inr rfl))
  | di | ei => exact .of_ends refl (.intro _ _ 0 (by decide) (.inl rfl))
  | stop | illegal => exact .fault _

/-- What an instruction does when it completes: edits of the data, then one ending. -/
theorem exec_edits {i : Instr} {s t : State} (h : exec i s = .next t) : ∃ u, Edits s u ∧ Ends i.form u t :=
  execForm_completes i.form s t (exec_eq_execForm i s ▸ h)

/-! ### Who writes IME -/

theorem imeAfter_form (i : Instr) (old : Bool) :
    imeAfter i.form old = if i = .di then false else if i = .ei ∨ i = .reti then true else old := by
  cases i <;> rfl

/-- Settles O55: no edit touches IME, and the ending writes it by the form. -/
theorem whoWritesIme : Obligations.WhoWritesIme := by
  unfold Obligations.WhoWritesIme
  intro i s t h
  obtain ⟨u, hu, ⟨⟩⟩ := exec_edits h
  rw [← imeAfter_form, ← hu.ime_eq]

/-! ### Who writes IE and IF -/

/-- What an instruction changes in CORE's own component it changes by a write that it records. -/
theorem exec_coreRead_changes_by_write {i : Instr} {s t : State} (h : exec i s = .next t) {a : Word}
    (ha : t.coreRead a ≠ s.coreRead a) : ∃ v, BusAccess.write a v ∈ t.accesses.drop s.accesses.length := by
  obtain ⟨u, hu, ⟨⟩⟩ := exec_edits h
  obtain ⟨l, hl, hw⟩ := hu.coreRead_changes_by_write
  simpa [hl] using hw a ha

/-- Settles O57: IE and IF are what CORE's own component answers at their addresses. -/
theorem interruptRegistersChangeByBusWrites : Obligations.InterruptRegistersChangeByBusWrites := by
  unfold Obligations.InterruptRegistersChangeByBusWrites
  intro i s t h
  exact ⟨fun hie => exec_coreRead_changes_by_write h (a := Config.addrIE) fun e => hie (Option.some.inj e),
    fun hif => exec_coreRead_changes_by_write h (a := Config.addrIF) fun e => hif (Option.some.inj e)⟩

/-! ### The invariant -/

theorem wf_iff (s : State) :
    s.wf = true ↔ s.regs.f &&& 0x0F = 0 ∧ s.memWf = true ∧ (s.halted = true → s.wait = 0) ∧ s.wait ≤ 5 := by
  simp only [State.wf, State.memWf, Bool.and_eq_true, decide_eq_true_eq, and_assoc]

/-- Settles O17: the reset state is a fixed one, and the invariant evaluates at it. -/
theorem resetKeepsInvariant : Obligations.ResetKeepsInvariant := by
  unfold Obligations.ResetKeepsInvariant
  decide

theorem beginCycle_wf {s : State} (h : s.wf = true) : s.beginCycle.wf = true := by
  obtain ⟨hregs, -, -, -, hhalted, hwait, -⟩ := s.beginCycle_frame
  rw [wf_iff] at h ⊢
  rw [hregs, hhalted, hwait]
  exact ⟨h.1, State.memWf_beginCycle h.2.1, h.2.2⟩

theorem coreReset_wf {s : State} (h : s.memWf = true) : s.coreReset.wf = true := by
  simp only [State.memWf, Bool.and_eq_true] at h
  obtain ⟨⟨-, hbefore⟩, hafter⟩ := h
  have hmem : s.coreReset.memWf = true := by
    simp [State.memWf, State.coreReset, hbefore, hafter]
  exact (wf_iff _).2 ⟨(by decide : RegFile.zero.f &&& 0x0F = 0), hmem, fun _ => rfl, Nat.zero_le _⟩

theorem wake_wf {s : State} (h : s.wf = true) : s.wake.wf = true := by
  unfold State.wake
  split
  · obtain ⟨hf, hm, -, -⟩ := (wf_iff s).1 h
    exact (wf_iff _).2 ⟨hf, hm, fun _ => rfl, Nat.zero_le _⟩
  · exact h

/-- A busy step leaves a shorter wait. -/
theorem countDown_wf {s : State} (h : s.wf = true) : ({ s with wait := s.wait - 1 } : State).wf = true := by
  obtain ⟨hf, hm, hh, hw⟩ := (wf_iff s).1 h
  refine (wf_iff _).2 ⟨hf, hm, fun ht => ?_, (Nat.sub_le _ _).trans hw⟩
  show s.wait - 1 = 0
  rw [hh ht]

theorem dispatchInterrupt_wf {s t : State} (h : s.wf = true) (hh : s.halted = false)
    (ht : dispatchInterrupt s = .next t) : t.wf = true := by
  obtain ⟨hf, hm, -, -⟩ := (wf_iff s).1 h
  cases hk : servicedSource s.enabledRequests with
  | none => rw [dispatchInterrupt_fault hk] at ht; cases ht
  | some k =>
    rw [dispatchInterrupt_eq hk] at ht
    cases ht
    have hpush := Edits.refl (s := { s with ifr := Bits.set s.ifr k.index false, ime := false }) |>.push16 s.pc
    have hwait : Config.intDispatchCost - 1 ≤ 5 := by decide
    exact (wf_iff _).2 ⟨hpush.f_low hf, hpush.memWf hm, fun hx => absurd hx (by simp [hh]), hwait⟩

theorem exec_wf {i : Instr} {s t : State} (h : s.wf = true) (hh : s.halted = false) (ht : exec i s = .next t) :
    t.wf = true := by
  obtain ⟨hf, hm, -, -⟩ := (wf_iff s).1 h
  obtain ⟨u, hu, ⟨pc, halted, wait, hwait, hhalted⟩⟩ := exec_edits ht
  refine (wf_iff _).2 ⟨hu.f_low hf, hu.memWf hm, fun hx => ?_, hwait⟩
  rcases hhalted with hsame | hzero
  · exact absurd hx (by simp [hsame, hu.halted_eq, hh])
  · exact hzero

theorem noteFetches_wf {s : State} (h : s.wf = true) (n : Nat) : (s.noteFetches n).wf = true := by
  rw [State.noteFetches_eq]
  exact h

theorem coreStep_wf {s t : State} (h : s.wf = true) (ht : coreStep s = .next t) : t.wf = true := by
  have hw := wake_wf h
  rcases coreStep_cases s with ⟨-, e⟩ | ⟨-, -, e⟩ | ⟨hh, -, -, -, e⟩ | ⟨hh, -, -, e⟩ <;> rw [e] at ht
  · cases ht
    exact hw
  · cases ht
    exact countDown_wf hw
  · exact dispatchInterrupt_wf hw hh ht
  · exact exec_wf (noteFetches_wf hw _) (by simpa using hh) ht

/-- Settles O18: the cycle begins with the invariant, and each way its step ends keeps it. -/
theorem stepKeepsInvariant : Obligations.StepKeepsInvariant := by
  unfold Obligations.StepKeepsInvariant
  intro s t h ht
  cases hr : s.input.reset with
  | true =>
    rw [step_of_reset hr] at ht
    cases ht
    exact coreReset_wf (State.memWf_beginCycle (State.memWf_of_wf h))
  | false =>
    rw [step_of_no_reset hr] at ht
    exact coreStep_wf (beginCycle_wf h) ht

end Sys2Proof.Proofs
end

section
/-! PROOFS. The bus arbiter and CORE's own decoder: whose answer a read takes, one equation per place in the attach
order, and the addresses at which CORE answers. -/

namespace Sys2Proof.Proofs

open Sys2Proof.Machine

/-! ### The attach order -/

/-- Components that do not answer leave the question to those after them. -/
theorem firstAnswer_append_of_silent {xs : List Component} {c : Nat} {f : Bool} {a : Word}
    (h : ∀ x ∈ xs, x.read c f a = none) (ys : List Component) :
    firstAnswer (xs ++ ys) c f a = firstAnswer ys c f a := by
  induction xs with
  | nil => rfl
  | cons x rest ih =>
    obtain ⟨hx, hrest⟩ := List.forall_mem_cons.1 h
    simp only [List.cons_append, firstAnswer, hx, ih hrest]

theorem firstAnswer_of_silent {ks : List Component} {c : Nat} {f : Bool} {a : Word}
    (h : ∀ x ∈ ks, x.read c f a = none) : firstAnswer ks c f a = none := by
  simpa [firstAnswer] using firstAnswer_append_of_silent h []

theorem firstAnswer_of_first {xs ys : List Component} {k : Component} {c : Nat} {f : Bool} {a : Word} {v : Byte}
    (h : ∀ x ∈ xs, x.read c f a = none) (hk : k.read c f a = some v) :
    firstAnswer (xs ++ k :: ys) c f a = some v := by
  rw [firstAnswer_append_of_silent h]
  simp only [firstAnswer, hk]

/-! ### The places of an answer -/

section Answers

variable {s : State} {f : Bool} {a : Word} {v : Byte}

theorem busRead_of_before (hb : firstAnswer s.before s.cycle f a = some v) : s.busRead f a = v := by
  simp only [State.busRead, hb]

theorem busRead_of_core (hb : firstAnswer s.before s.cycle f a = none) (hc : s.coreRead a = some v) :
    s.busRead f a = v := by
  simp only [State.busRead, hb, hc]

theorem busRead_of_after (hb : firstAnswer s.before s.cycle f a = none) (hc : s.coreRead a = none)
    (ha : firstAnswer s.after s.cycle f a = some v) : s.busRead f a = v := by
  simp only [State.busRead, hb, hc, ha]

theorem busRead_of_nobody (hb : firstAnswer s.before s.cycle f a = none) (hc : s.coreRead a = none)
    (ha : firstAnswer s.after s.cycle f a = none) : s.busRead f a = Config.openBusByte := by
  simp only [State.busRead, hb, hc, ha]

end Answers

/-- Settles O20: the answer comes from before CORE's component, from it, from after it, or from nobody. -/
theorem firstAnswerWins : Obligations.FirstAnswerWins := by
  unfold Obligations.FirstAnswerWins
  intro s f a
  refine ⟨?before, ?core, ?after, ?nobody⟩
  case before =>
    intro xs ys k v hs hxs hk
    exact busRead_of_before (hs ▸ firstAnswer_of_first hxs hk)
  case core =>
    intro v hb hc
    exact busRead_of_core (firstAnswer_of_silent hb) hc
  case after =>
    intro xs ys k v hs hb hc hxs hk
    exact busRead_of_after (firstAnswer_of_silent hb) hc (hs ▸ firstAnswer_of_first hxs hk)
  case nobody =>
    intro hb hc ha
    exact busRead_of_nobody (firstAnswer_of_silent hb) hc (firstAnswer_of_silent ha)

/-- Settles O21: the broadcast is the definition of a bus write; what needs proof is that it changes no other address. -/
theorem everyComponentReceivesTheWrite : Obligations.EveryComponentReceivesTheWrite := by
  unfold Obligations.EveryComponentReceivesTheWrite
  intro s a v
  exact ⟨rfl, rfl, fun _ => rfl, fun f _ hx => s.busRead_busWrite_of_ne hx v f⟩

/-! ### CORE's own decoder -/

/-- The fast RAM holds neither of the two interrupt registers' addresses. -/
theorem coreRead_of_inHram {s : State} {a : Word} (h : inHram a = true) :
    s.coreRead a = some (s.hram.read (hramIndex a)) := by
  have hie : a ≠ Config.addrIE := by rintro rfl; exact absurd h (by decide)
  have hif : a ≠ Config.addrIF := by rintro rfl; exact absurd h (by decide)
  simp only [State.coreRead, if_neg hie, if_neg hif, if_pos h]

theorem coreRead_eq_none_iff {s : State} {a : Word} :
    s.coreRead a = none ↔ a ≠ Config.addrIE ∧ a ≠ Config.addrIF ∧ inHram a = false := by
  rw [← Option.isNone_iff_eq_none, ← Option.isSome_eq_false_iff, s.coreRead_isSome]
  simp [and_assoc]

/-- A write at an address that CORE does not answer changes nothing in CORE. -/
theorem coreWrite_of_coreRead_eq_none {s : State} {a : Word} (h : s.coreRead a = none) (v : Byte) :
    s.coreWrite a v = s := by
  obtain ⟨hie, hif, hram⟩ := coreRead_eq_none_iff.1 h
  simp only [State.coreWrite, if_neg hie, if_neg hif, hram, Bool.false_eq_true, if_false]

/-- Settles O22: a read by the address's range, a write by whether CORE answers at its address. -/
theorem coreDecoder : Obligations.CoreDecoder := by
  unfold Obligations.CoreDecoder
  intro s a v hwf
  have hmem := State.memWf_of_wf hwf
  simp only [State.memWf, Bool.and_eq_true] at hmem
  obtain ⟨⟨hram, -⟩, -⟩ := hmem
  refine ⟨rfl, rfl, ?fastRam, ?elsewhere, s.coreRead_coreWrite_self hram a v, fun x hx => s.coreRead_coreWrite_of_ne hx v⟩
  case fastRam =>
    intro hlo hhi
    exact coreRead_of_inHram ((inHram_iff a).2 ⟨hlo, hhi⟩)
  case elsewhere =>
    intro hie hif hlt
    have hout : inHram a = false := by
      rw [← Bool.not_eq_true, inHram_iff]
      omega
    have hnone : s.coreRead a = none := coreRead_eq_none_iff.2 ⟨hie, hif, hout⟩
    exact ⟨hnone, coreWrite_of_coreRead_eq_none hnone v⟩

/-! ### Read-back -/

/-- Settles O23: a data read and a fetch go through the same arbiter. -/
theorem storageReadsBack : Obligations.StorageReadsBack := by
  unfold Obligations.StorageReadsBack
  intro s a v hwf hstore
  have hread : ∀ f, (s.busWrite a v).busRead f a = v := State.busRead_busWrite_self (State.memWf_of_wf hwf) hstore v
  exact ⟨hread false, hread true⟩

end Sys2Proof.Proofs
end

section
/-! PROOFS. The decoder and the encoder are inverse: bytes decode to `i` and `rest` exactly when they are the encoding of
`i` followed by `rest`. The decoder's side is read off the rows of its tables, the encoder's side off the instructions. -/

namespace Sys2Proof.Proofs

open Sys2Proof.Machine Sys2Proof.Laws

/-! ### The tables, row by row

Row 12 holds the escape byte's slot, so a fact about it takes the same fact about the secondary table. -/

/-- The escape byte's slot of the primary table leads to the secondary table. -/
theorem decode3_eq_primary (op b1 b2 : Byte) : decode3 op b1 b2 = primary op b1 b2 := by
  rw [decode3]
  split
  case isTrue h => rw [h]; rfl
  case isFalse => rfl

/-- The opcodes of row `h` of the primary table, in column order. -/
def rowOpcodes (h : Nat) : List Byte := (List.range 16).map fun l => BitVec.ofNat 8 (16 * h + l)

/-- What holds of an instruction by its opcode is shown row by row: opcode `op` is in row `op / 16`, column `op % 16`. -/
theorem decode3_of_rows {α : Type} {f : Instr → α} {g : Byte → α} {b1 b2 : Byte}
    (hrows : ∀ h < 16, (primaryRow h b1 b2).map f = (rowOpcodes h).map g) (op : Byte) :
    f (decode3 op b1 b2) = g op := by
  have hrow := hrows (op.toNat / 16) (by omega)
  have hcol : op.toNat % 16 < 16 := by omega
  have hentry : f (primary op b1 b2) = g (BitVec.ofNat 8 (16 * (op.toNat / 16) + op.toNat % 16)) := by
    simpa [primary, rowOpcodes, primaryRow_length, hcol] using congrArg (·[op.toNat % 16]?) hrow
  simpa [decode3_eq_primary, Nat.div_add_mod] using hentry

theorem encode_secondary : ∀ b : Byte, encode (secondary b) = [0xCB, b] := by decide

theorem wellFormed_secondary : ∀ b : Byte, (secondary b).wellFormed = true := by decide

/-- With the operand bytes as those of one word, each row's encodings are as the encoder lays them out. -/
theorem encode_rows (w : Word) : ∀ h < 16, (primaryRow h (Bits.low w) (Bits.high w)).map encode =
    (rowOpcodes h).map fun op => [op, Bits.low w, Bits.high w].take (lengthOf op) := by
  intro h hh
  interval_cases h
  all_goals
    simp only [primaryRow, primaryRow0, primaryRow1, primaryRow2, primaryRow3, primaryRowC, primaryRowD, primaryRowE,
      primaryRowF, make16_high_low, List.map_cons, encode_secondary]
    rfl

theorem wellFormed_rows (b1 b2 : Byte) : ∀ h < 16, (primaryRow h b1 b2).map Instr.wellFormed =
    (rowOpcodes h).map fun op => decide (op ∉ undefinedOpcodes) := by
  intro h hh
  interval_cases h
  all_goals
    simp only [primaryRow, primaryRowC, List.map_cons, wellFormed_secondary]
    rfl

/-! ### Three bytes -/

/-- The encoding of what three bytes decode to: the opcode and as many bytes after it as it has operands. -/
theorem encode_decode3 (op b1 b2 : Byte) : encode (decode3 op b1 b2) = [op, b1, b2].take (lengthOf op) := by
  have h := decode3_of_rows (encode_rows (Bits.make16 b2 b1)) op
  rwa [low_make16, high_make16] at h

/-- Three bytes that begin with the encoding of an instruction decode to it: the opcode selects the instruction's slot,
and a word operand is put together again from its two bytes. -/
theorem decode3_of_encode_isPrefix {i : Instr} {op b1 b2 : Byte} (h : encode i <+: [op, b1, b2]) :
    decode3 op b1 b2 = i := by
  obtain ⟨t, ht⟩ := h
  cases i with
  | ld_BC_n16 w | ld_mN16_SP w | ld_DE_n16 w | ld_HL_n16 w | ld_SP_n16 w | jp_NZ_n16 w | jp_n16 w | call_NZ_n16 w
  | jp_Z_n16 w | call_Z_n16 w | call_n16 w | jp_NC_n16 w | call_NC_n16 w | jp_C_n16 w | call_C_n16 w | ld_mN16_A w
  | ld_A_mN16 w =>
    cases ht
    exact congrArg _ (make16_high_low w)
  | _ =>
    cases ht
    rfl

/-! ### Lengths -/

theorem length_encode (i : Instr) : (encode i).length = i.length := (encodedLength_form i.form).1

theorem length_pos (i : Instr) : 1 ≤ i.length := (encodedLength_form i.form).2.1

theorem length_le_three (i : Instr) : i.length ≤ 3 := (encodedLength_form i.form).2.2

theorem lengthOf_le_three (op : Byte) : lengthOf op ≤ 3 := length_le_three _

/-- The first byte alone tells the length (R152). -/
theorem length_decode3 (op b1 b2 : Byte) : (decode3 op b1 b2).length = lengthOf op := by
  have hle := lengthOf_le_three op
  rw [← length_encode, encode_decode3, List.length_take, List.length_cons, List.length_cons, List.length_singleton]
  omega

/-- Settles O4: the length is that of the first byte's slot, and every form is one to three bytes long. -/
theorem lengthFromFirstByte : Obligations.LengthFromFirstByte := by
  unfold Obligations.LengthFromFirstByte
  intro op b1 b2
  refine ⟨?_, length_pos _, length_le_three _⟩
  rw [length_decode3]
  split
  case isTrue h => rw [h]; rfl
  case isFalse => rfl

/-- Settles O5: each row of the primary table is checked against R164, and the secondary table has no gap (R163). -/
theorem elevenUndefinedOpcodes : Obligations.ElevenUndefinedOpcodes := by
  unfold Obligations.ElevenUndefinedOpcodes
  intro op b1 b2
  rw [decode3_of_rows (wellFormed_rows b1 b2) op, decide_eq_false_iff_not, not_not]
  rfl

/-! ### Byte lists -/

/-- The three bytes the decoder looks at: those of the list, zero where it ends. -/
theorem lookahead_eq_take (op : Byte) (r : List Byte) :
    [op, r.getD 0 0, r.getD 1 0] = (op :: r ++ [0, 0]).take 3 := by
  match r with
  | [] | [_] | _ :: _ :: _ => rfl

/-- An instruction's encoding decodes to it: the lookahead begins with that encoding. -/
theorem decode_encode_append (i : Instr) (rest : List Byte) : decode (encode i ++ rest) = .ok (i, rest) := by
  have hlen := length_encode i
  have hpos := length_pos i
  match hbytes : encode i ++ rest with
  | [] =>
    have hnil : encode i = [] := (List.append_eq_nil_iff.1 hbytes).1
    rw [hnil, List.length_nil] at hlen
    omega
  | op :: r =>
    have hbegins : encode i <+: [op, r.getD 0 0, r.getD 1 0] := by
      rw [lookahead_eq_take, ← hbytes, List.append_assoc, List.prefix_take_iff]
      exact ⟨List.prefix_append _ _, hlen ▸ length_le_three i⟩
    have hi := decode3_of_encode_isPrefix hbegins
    have hop : lengthOf op = i.length := by rw [← hi, length_decode3]
    have hsize : i.length + rest.length = r.length + 1 := by
      simpa [hlen] using congrArg List.length hbytes
    have hrest : r.drop (i.length - 1) = rest := by
      simpa [hlen, List.drop_cons hpos] using (congrArg (List.drop i.length) hbytes).symm
    rw [decode, if_neg (by omega), hi, hop, hrest]

/-- What decodes is an encoding and what follows it: the decoder's lookahead, cut at the length, is the encoding. -/
theorem eq_encode_append_of_decode {bytes rest : List Byte} {i : Instr} (h : decode bytes = .ok (i, rest)) :
    bytes = encode i ++ rest := by
  match bytes with
  | [] => cases h
  | op :: r =>
    rw [decode] at h
    split at h
    case isTrue => cases h
    case isFalse hfit =>
      cases h
      have hrest : r.drop (lengthOf op - 1) = (op :: r).drop (lengthOf op) := (List.drop_cons (length_pos _)).symm
      have hlook : lengthOf op ≤ (op :: r).length := Nat.le_of_not_lt hfit
      rw [encode_decode3, lookahead_eq_take, List.take_take, min_eq_left (lengthOf_le_three op),
        List.take_append_of_le_length hlook, hrest, List.take_append_drop]

/-- Bytes decode to an instruction and a rest exactly when they are its encoding followed by the rest. -/
theorem decode_eq_ok_iff {bytes rest : List Byte} {i : Instr} :
    decode bytes = .ok (i, rest) ↔ bytes = encode i ++ rest :=
  ⟨eq_encode_append_of_decode, fun h => h ▸ decode_encode_append i rest⟩

/-- Settles O2, the right-to-left half of `decode_eq_ok_iff`. -/
theorem decodeOfEncode : Obligations.DecodeOfEncode := by
  unfold Obligations.DecodeOfEncode
  exact fun _ _ => decode_eq_ok_iff.2 rfl

/-- Settles O3, its left-to-right half. -/
theorem encodeOfDecode : Obligations.EncodeOfDecode := by
  unfold Obligations.EncodeOfDecode
  exact fun _ _ _ => decode_eq_ok_iff.1

/-- Settles O1: the decoder run on each word. -/
theorem writtenOutWordsDecode : Obligations.WrittenOutWordsDecode :=
  ⟨rfl, rfl, rfl, rfl, rfl, rfl, rfl, rfl, rfl, rfl, rfl, rfl, rfl, rfl, rfl, rfl, rfl, rfl⟩

end Sys2Proof.Proofs
end

section
/-! PROOFS. The ALU functions: an equation for each value and each flag, from which the rules about carries, decimal
adjust and the rotates follow by arithmetic and by comparing bits; then which forms write F at all. -/

namespace Sys2Proof.Proofs

open Sys2Proof.Machine Sys2Proof.Laws

/-! ### Masks and halves as remainders and quotients -/

/-- A mask of the low `k` bits takes the remainder. -/
theorem toNat_and_mask {w k : Nat} (x m : BitVec w) (hm : m.toNat = 2 ^ k - 1) : (x &&& m).toNat = x.toNat % 2 ^ k := by
  rw [BitVec.toNat_and, hm, Nat.and_two_pow_sub_one_eq_mod]

theorem toNat_and_nibble (x : Byte) : (x &&& 0x0F).toNat = x.toNat % 16 := toNat_and_mask (k := 4) x 0x0F rfl

theorem toNat_low (x : Word) : (Bits.low x).toNat = x.toNat % 256 := BitVec.toNat_setWidth 8 x

theorem toNat_high (x : Word) : (Bits.high x).toNat = x.toNat / 256 := by
  have hx := x.isLt
  simp only [Bits.high, Bits.extract, BitVec.extractLsb'_toNat, Nat.shiftRight_eq_div_pow]
  omega

/-! ### The 8-bit adder and subtracter -/

theorem toNat_decide (P : Prop) [Decidable P] : (decide P).toNat = if P then 1 else 0 := Bool.cond_decide P 1 0

section Adders

variable (l r : Byte) (b : Bool)

theorem toNat_aluAdd : (aluAdd l r b).value.toNat = (l.toNat + r.toNat + b.toNat) % 256 := BitVec.toNat_ofNat _ 8

theorem aluAdd_h : (aluAdd l r b).flags.h = decide (l.toNat % 16 + r.toNat % 16 + b.toNat > 0xF) := by
  simp only [aluAdd, toNat_and_nibble]

theorem aluAdd_c : (aluAdd l r b).flags.c = decide (l.toNat + r.toNat + b.toNat > 0xFF) := rfl

theorem aluSub_h : (aluSub l r b).flags.h = decide (l.toNat % 16 < r.toNat % 16 + b.toNat) := by
  simp only [aluSub, toNat_and_nibble]

theorem aluSub_c : (aluSub l r b).flags.c = decide (l.toNat < r.toNat + b.toNat) := rfl

/-- The borrow out makes up for what the difference lacks. -/
theorem toNat_aluSub :
    (aluSub l r b).value.toNat + r.toNat + b.toNat = l.toNat + 256 * (aluSub l r b).flags.c.toNat := by
  have hl := l.isLt
  have hr := r.isLt
  have hb := b.toNat_le
  simp only [aluSub, BitVec.toNat_ofInt, toNat_decide]
  split <;> omega

end Adders

/-- Settles O24, from the adder's equations. -/
theorem addFunction : Obligations.AddFunction := by
  unfold Obligations.AddFunction
  intro l r c0
  exact ⟨toNat_aluAdd l r c0, rfl, rfl, aluAdd_h l r c0, aluAdd_c l r c0⟩

/-- Settles O25, from the subtracter's equations. -/
theorem subFunction : Obligations.SubFunction := by
  unfold Obligations.SubFunction
  intro l r b0
  exact ⟨toNat_aluSub l r b0, rfl, rfl, aluSub_h l r b0, aluSub_c l r b0⟩

/-! ### The 16-bit adders -/

section WideAdders

variable (l r : Word)

/-- `add16L` carries where the 8-bit add of the low bytes does (R205). -/
theorem aluAdd16L_flags :
    let lo := aluAdd (Bits.low l) (Bits.low r) false
    (aluAdd16L l r).flags = { z := false, n := false, h := lo.flags.h, c := lo.flags.c } := by
  have hnibble (x : Word) : (x &&& 0x000F).toNat = x.toNat % 16 := toNat_and_mask (k := 4) x _ rfl
  have hbyte (x : Word) : (x &&& 0x00FF).toNat = x.toNat % 256 := toNat_and_mask (k := 8) x _ rfl
  simp only [aluAdd16L, aluAdd_h, aluAdd_c, toNat_low, hnibble, hbyte, Bool.toNat_false, Nat.add_zero,
    Nat.mod_mod_of_dvd _ (show 16 ∣ 256 by decide)]

/-- `add16H` carries where the 8-bit add of the high bytes does, the carry of the low ones going in (R206). -/
theorem aluAdd16H_flags :
    let lo := aluAdd (Bits.low l) (Bits.low r) false
    let hi := aluAdd (Bits.high l) (Bits.high r) lo.flags.c
    (aluAdd16H l r).flags = { z := false, n := false, h := hi.flags.h, c := hi.flags.c } := by
  have hmask (x : Word) : (x &&& 0x0FFF).toNat = x.toNat % 4096 := toNat_and_mask (k := 12) x _ rfl
  simp only [aluAdd16H, aluAdd_h, aluAdd_c, toNat_low, toNat_high, hmask, Bool.toNat_false, toNat_decide,
    Flags.mk.injEq, true_and, decide_eq_decide]
  constructor <;> split <;> omega

end WideAdders

/-- Settles O26: both values are the sum by definition, and the flags are those of the halves. -/
theorem wideAddersUseOneHalf : Obligations.WideAddersUseOneHalf := by
  unfold Obligations.WideAddersUseOneHalf
  intro l r
  exact ⟨rfl, aluAdd16L_flags l r, rfl, aluAdd16H_flags l r⟩

/-! ### Decimal adjust -/

/-- The correction of R207, from its conditions on the high and on the low digit. -/
def bcdFix (high low : Bool) : Nat := 0x60 * high.toNat + 0x06 * low.toNat

theorem bcdFix_eq_ite (high low : Bool) :
    bcdFix high low = if high then (if low then 0x66 else 0x60) else (if low then 0x06 else 0x00) := by
  cases high <;> cases low <;> rfl

theorem bcdFix_le (high low : Bool) : bcdFix high low ≤ 0x66 := by
  cases high <;> cases low <;> decide

/-- The two parts of the correction, as the byte that R207 adds or subtracts. -/
theorem toNat_bcdFix (high low : Bool) :
    ((if high then 0x60 else 0) + (if low then 0x06 else 0) : Byte).toNat = bcdFix high low := by
  cases high <;> cases low <;> rfl

/-- With N clear the conditions also look at the digits, and the correction is added. -/
theorem toNat_aluBcdAdjust_add (v : Byte) (h c : Bool) :
    (aluBcdAdjust v false h c).value.toNat =
      (v.toNat + bcdFix (c || decide (v.toNat > 0x99)) (h || decide (v.toNat % 16 > 9))) % 256 := by
  rw [← toNat_bcdFix, ← toNat_and_nibble]
  exact BitVec.toNat_add v _

/-- With N set the conditions are the borrows, and the correction is subtracted. -/
theorem toNat_aluBcdAdjust_sub (v : Byte) (h c : Bool) :
    (aluBcdAdjust v true h c).value.toNat = (v.toNat + 256 - bcdFix c h) % 256 := by
  have hle := bcdFix_le c h
  simp only [aluBcdAdjust, Bool.not_true, Bool.false_and, Bool.or_false, if_true, BitVec.toNat_sub, toNat_bcdFix]
  omega

/-- Settles O27: the correction is added or subtracted as N says, and the flags are as defined. -/
theorem decimalAdjustFixups : Obligations.DecimalAdjustFixups := by
  unfold Obligations.DecimalAdjustFixups
  intro v n h c low high fix
  refine ⟨?_, rfl⟩
  rw [show fix = bcdFix high low from (bcdFix_eq_ite high low).symm]
  cases n with
  | false => exact toNat_aluBcdAdjust_add v h c
  | true =>
    rw [show low = h from Bool.or_false h, show high = c from Bool.or_false c]
    exact toNat_aluBcdAdjust_sub v h c

/-! ### Decimal arithmetic -/

/-- The two-digit packed decimal of a number. -/
def packed (n : Nat) : Byte := BitVec.ofNat 8 (16 * (n / 10) + n % 10)

theorem toNat_packed {n : Nat} (h : n < 100) : (packed n).toNat = 16 * (n / 10) + n % 10 := by
  rw [packed, BitVec.toNat_ofNat]
  omega

theorem toNat_packed_of_digits {n x y : Nat} (hx : x < 10) (hy : y < 10) (h : n = 10 * x + y) :
    (packed n).toNat = 16 * x + y := by
  rw [toNat_packed (by omega)]
  omega

section DigitByDigit

variable {p q b : Nat} (hp : p < 100) (hq : q < 100) (hb : b ≤ 1)
include hp hq hb

/-- Addition digit by digit: a digit that passes 9 carries one into the next. -/
theorem exists_digits_add :
    let low := decide (10 ≤ p % 10 + q % 10 + b)
    let high := decide (100 ≤ p + q + b)
    ∃ x y, x < 10 ∧ y < 10 ∧ (p + q + b) % 100 = 10 * x + y
      ∧ p / 10 + q / 10 + low.toNat = x + 10 * high.toNat ∧ p % 10 + q % 10 + b = y + 10 * low.toNat := by
  intro low high
  refine ⟨p / 10 + q / 10 + low.toNat - 10 * high.toNat, p % 10 + q % 10 + b - 10 * low.toNat, ?_⟩
  simp only [low, high, toNat_decide]
  split <;> split <;> omega

/-- Subtraction digit by digit: a digit that falls short borrows one from the next. -/
theorem exists_digits_sub :
    let low := decide (p % 10 < q % 10 + b)
    let high := decide (p < q + b)
    ∃ x y, x < 10 ∧ y < 10 ∧ (p + 100 - (q + b)) % 100 = 10 * x + y
      ∧ p / 10 + 10 * high.toNat = x + q / 10 + low.toNat ∧ p % 10 + 10 * low.toNat = y + q % 10 + b := by
  intro low high
  refine ⟨p / 10 + 10 * high.toNat - (q / 10 + low.toNat), p % 10 + 10 * low.toNat - (q % 10 + b), ?_⟩
  simp only [low, high, toNat_decide]
  split <;> split <;> omega

end DigitByDigit

/-- Tens `t` and units `u` of a sum, read as nibbles, pass 0x99 exactly where the decimal sum passes 99. -/
theorem nibbles_gt_iff {t u : Nat} (ht : t ≤ 18) (hu : u ≤ 19) :
    16 * t + u > 0xFF ∨ (16 * t + u) % 256 > 0x99 ↔ 100 ≤ 10 * t + u := by omega

section DecimalArithmetic

variable {p q : Nat} (hp : p < 100) (hq : q < 100) {b : Bool} {x : ValueFlags 8}
include hp hq

/-- After an addition the conditions of R207 hold where a decimal digit carries. -/
theorem bcd_conditions_of_aluAdd (hx : x = aluAdd (packed p) (packed q) b) :
    (x.flags.h || decide (x.value.toNat % 16 > 9)) = decide (10 ≤ p % 10 + q % 10 + b.toNat)
    ∧ (x.flags.c || decide (x.value.toNat > 0x99)) = decide (100 ≤ p + q + b.toNat) := by
  have hb := b.toNat_le
  rw [hx, aluAdd_h, aluAdd_c, toNat_aluAdd, toNat_packed hp, toNat_packed hq, ← Bool.decide_or, ← Bool.decide_or,
    decide_eq_decide, decide_eq_decide]
  constructor
  · omega
  · have hnibbles := nibbles_gt_iff (t := p / 10 + q / 10) (u := p % 10 + q % 10 + b.toNat) (by omega) (by omega)
    convert hnibbles using 2 <;> omega

/-- After a subtraction the two borrows are the decimal borrows. -/
theorem borrows_of_aluSub (hx : x = aluSub (packed p) (packed q) b) :
    x.flags.h = decide (p % 10 < q % 10 + b.toNat) ∧ x.flags.c = decide (p < q + b.toNat) := by
  have hb := b.toNat_le
  rw [hx, aluSub_h, aluSub_c, toNat_packed hp, toNat_packed hq, decide_eq_decide, decide_eq_decide]
  constructor <;> omega

theorem aluBcdAdjust_of_aluAdd (hx : x = aluAdd (packed p) (packed q) b) :
    let adj := aluBcdAdjust x.value false x.flags.h x.flags.c
    adj.value = packed ((p + q + b.toNat) % 100) ∧ adj.flags.c = decide (100 ≤ p + q + b.toNat) := by
  obtain ⟨hlow, hhigh⟩ := bcd_conditions_of_aluAdd hp hq hx
  obtain ⟨tens, units, ht, hu, hdigits, htens, hunits⟩ := exists_digits_add hp hq b.toNat_le
  have hsum := toNat_aluAdd (packed p) (packed q) b
  rw [← hx, toNat_packed hp, toNat_packed hq] at hsum
  refine ⟨BitVec.eq_of_toNat_eq ?_, hhigh⟩
  rw [toNat_aluBcdAdjust_add, hlow, hhigh, toNat_packed_of_digits ht hu hdigits, bcdFix]
  omega

theorem aluBcdAdjust_of_aluSub (hx : x = aluSub (packed p) (packed q) b) :
    let adj := aluBcdAdjust x.value true x.flags.h x.flags.c
    adj.value = packed ((p + 100 - (q + b.toNat)) % 100) ∧ adj.flags.c = decide (p < q + b.toNat) := by
  obtain ⟨hlow, hhigh⟩ := borrows_of_aluSub hp hq hx
  obtain ⟨tens, units, ht, hu, hdigits, htens, hunits⟩ := exists_digits_sub hp hq b.toNat_le
  have hdif := toNat_aluSub (packed p) (packed q) b
  rw [← hx, hhigh, toNat_packed hp, toNat_packed hq] at hdif
  refine ⟨BitVec.eq_of_toNat_eq ?_, (Bool.or_false _).trans hhigh⟩
  rw [toNat_aluBcdAdjust_sub, hlow, hhigh, toNat_packed_of_digits ht hu hdigits, bcdFix]
  omega

end DecimalArithmetic

/-- Settles O28: the corrections of R207 are made exactly where a decimal digit carries or borrows. -/
theorem decimalArithmetic : Obligations.DecimalArithmetic := by
  unfold Obligations.DecimalArithmetic
  intro p q c0
  obtain ⟨hadd, haddc⟩ := aluBcdAdjust_of_aluAdd p.isLt q.isLt (b := c0) rfl
  obtain ⟨hsub, hsubc⟩ := aluBcdAdjust_of_aluSub p.isLt q.isLt (b := c0) rfl
  exact ⟨hadd, haddc, hsub, hsubc⟩

/-! ### The bit functions -/

/-- Settles O29: a bit of the value is the function of the operands' bits, and the flags are as defined. -/
theorem logicFunctions : Obligations.LogicFunctions := by
  unfold Obligations.LogicFunctions
  intro l r
  exact ⟨fun _ => BitVec.getLsbD_and, rfl, fun _ => BitVec.getLsbD_or, rfl, fun _ => BitVec.getLsbD_xor, rfl⟩

section Shifts

variable (v : Byte) (cin : Bool)

theorem test_of_ge {i : Nat} (hi : 8 ≤ i) : Bits.test v i = false := BitVec.getLsbD_of_ge v i hi

theorem test_or (x y : Byte) (i : Nat) : Bits.test (x ||| y) i = (Bits.test x i || Bits.test y i) := BitVec.getLsbD_or

theorem test_shiftRight (k i : Nat) : Bits.test (v >>> k) i = Bits.test v (i + k) := by
  rw [Nat.add_comm]
  exact BitVec.getLsbD_ushiftRight v k i

theorem test_aluShiftRightLogical (j : Nat) : Bits.test (aluShiftRightLogical v).value j = Bits.test v (j + 1) :=
  test_shiftRight v 1 j

variable {j : Nat} (hj : j < 8)
include hj

theorem test_shiftLeft (k : Nat) : Bits.test (v <<< k) j = (decide (k ≤ j) && Bits.test v (j - k)) := by
  simp only [Bits.test, BitVec.getLsbD_shiftLeft, hj, decide_true, Bool.true_and, ← decide_not, Nat.not_lt]

theorem test_ite_twoPow (b : Bool) (k : Nat) :
    Bits.test (if b then BitVec.twoPow 8 k else 0) j = (b && decide (j = k)) := by
  cases b <;> simp [Bits.test, hj]

/-- A left and a right shift that make up eight places bring every bit around. -/
theorem test_shiftLeft_or_shiftRight {k : Nat} (hk : k ≤ 8) :
    Bits.test (v <<< k ||| v >>> (8 - k)) j = Bits.test v ((j + (8 - k)) % 8) := by
  rw [test_or, test_shiftLeft v hj, test_shiftRight]
  by_cases h : k ≤ j
  · rw [show (j + (8 - k)) % 8 = j - k by omega, test_of_ge v (show 8 ≤ j + (8 - k) by omega)]
    simp [h]
  · rw [Nat.mod_eq_of_lt (show j + (8 - k) < 8 by omega)]
    simp [h]

theorem test_aluShiftLeft : Bits.test (aluShiftLeft v).value j = (decide (j ≠ 0) && Bits.test v (j - 1)) := by
  simp only [aluShiftLeft, shifted, test_shiftLeft v hj, Nat.one_le_iff_ne_zero]

theorem test_aluShiftRightArithmetic :
    Bits.test (aluShiftRightArithmetic v).value j = Bits.test v (if j = 7 then 7 else j + 1) := by
  have htop : Bits.test (v &&& BitVec.twoPow 8 7) j = (Bits.test v j && decide (j = 7)) := by
    simp [Bits.test, hj]
  rw [show (aluShiftRightArithmetic v).value = v >>> 1 ||| v &&& BitVec.twoPow 8 7 from rfl, test_or, test_shiftRight,
    htop]
  split
  case isTrue h => simp [h, test_of_ge v]
  case isFalse h => simp [h]

theorem test_aluRotate_left : Bits.test (aluRotate .left v).value j = Bits.test v ((j + 7) % 8) :=
  test_shiftLeft_or_shiftRight v hj (k := 1) (by decide)

theorem test_aluRotate_right : Bits.test (aluRotate .right v).value j = Bits.test v ((j + 1) % 8) := by
  rw [show (aluRotate .right v).value = v >>> 1 ||| v <<< 7 from rfl, BitVec.or_comm]
  exact test_shiftLeft_or_shiftRight v hj (k := 7) (by decide)

theorem test_aluRotateThroughCarry_left :
    Bits.test (aluRotateThroughCarry .left v cin).value j = if j = 0 then cin else Bits.test v (j - 1) := by
  rw [show (aluRotateThroughCarry .left v cin).value = v <<< 1 ||| (if cin then BitVec.twoPow 8 0 else 0) from rfl,
    test_or, test_shiftLeft v hj, test_ite_twoPow hj]
  cases j <;> simp

theorem test_aluRotateThroughCarry_right :
    Bits.test (aluRotateThroughCarry .right v cin).value j = if j = 7 then cin else Bits.test v (j + 1) := by
  rw [show (aluRotateThroughCarry .right v cin).value = v >>> 1 ||| (if cin then BitVec.twoPow 8 7 else 0) from rfl,
    test_or, test_shiftRight, test_ite_twoPow hj]
  split
  case isTrue h => simp [h, test_of_ge v]
  case isFalse h => simp [h]

theorem test_aluSwap : Bits.test (aluSwap v).value j = Bits.test v ((j + 4) % 8) := by
  rw [show (aluSwap v).value = v.extractLsb' 0 4 ++ v.extractLsb' 4 4 from rfl, Bits.test, BitVec.getLsbD_append,
    BitVec.getLsbD_extractLsb', BitVec.getLsbD_extractLsb']
  by_cases h : j < 4
  · rw [show (j + 4) % 8 = 4 + j by omega]
    simp [h, Bits.test]
  · rw [show (j + 4) % 8 = 0 + (j - 4) by omega]
    simp [h, Bits.test, show j - 4 < 4 by omega]

end Shifts

/-- A byte is known by its eight bits. -/
theorem eq_of_test_eq {x y : Byte} (h : ∀ j < 8, Bits.test x j = Bits.test y j) : x = y := BitVec.eq_of_getLsbD_eq h

theorem aluRotate_left_right (v : Byte) : (aluRotate .left (aluRotate .right v).value).value = v := by
  refine eq_of_test_eq fun j hj => ?_
  rw [test_aluRotate_left _ hj, test_aluRotate_right _ (by omega), show ((j + 7) % 8 + 1) % 8 = j by omega]

theorem aluRotate_right_left (v : Byte) : (aluRotate .right (aluRotate .left v).value).value = v := by
  refine eq_of_test_eq fun j hj => ?_
  rw [test_aluRotate_right _ hj, test_aluRotate_left _ (by omega), show ((j + 1) % 8 + 7) % 8 = j by omega]

theorem aluSwap_aluSwap (v : Byte) : (aluSwap (aluSwap v).value).value = v := by
  refine eq_of_test_eq fun j hj => ?_
  rw [test_aluSwap _ hj, test_aluSwap _ (by omega), show ((j + 4) % 8 + 4) % 8 = j by omega]

/-- The bit that a right rotate through carry drops comes back at the right end. -/
theorem aluRotateThroughCarry_left_right (v : Byte) (cin : Bool) :
    (aluRotateThroughCarry .left (aluRotateThroughCarry .right v cin).value (Bits.test v 0)).value = v := by
  refine eq_of_test_eq fun j hj => ?_
  rw [test_aluRotateThroughCarry_left _ _ hj]
  cases j with
  | zero => rfl
  | succ k =>
    rw [if_neg k.succ_ne_zero, Nat.add_sub_cancel, test_aluRotateThroughCarry_right _ _ (by omega), if_neg (by omega)]

/-- Settles O30: one lemma for the bits of each value; the flags are as defined. -/
theorem shiftFunctions : Obligations.ShiftFunctions := by
  unfold Obligations.ShiftFunctions
  intro v cin j hj moved
  have htested : (aluTestBit v (BitVec.ofNat 3 j)).flags.z = !Bits.test v j := by
    rw [show (aluTestBit v (BitVec.ofNat 3 j)).flags.z = !Bits.test v (j % 8) from rfl, Nat.mod_eq_of_lt hj]
  exact ⟨⟨test_aluShiftLeft v hj, rfl⟩, ⟨test_aluShiftRightArithmetic v hj, rfl⟩, ⟨test_aluShiftRightLogical v j, rfl⟩,
    ⟨test_aluRotate_left v hj, rfl⟩, ⟨test_aluRotate_right v hj, rfl⟩, ⟨test_aluRotateThroughCarry_left v cin hj, rfl⟩,
    ⟨test_aluRotateThroughCarry_right v cin hj, rfl⟩, ⟨test_aluSwap v hj, rfl⟩, htested, rfl, rfl,
    aluRotate_left_right v⟩

/-- Settles O31: bit by bit, the two moves cancel. -/
theorem rotatesAreInverse : Obligations.RotatesAreInverse := by
  unfold Obligations.RotatesAreInverse
  intro v cin
  exact ⟨aluRotate_left_right v, aluRotate_right_left v,
    ⟨aluRotateThroughCarry_left_right v cin, test_aluRotateThroughCarry_right v cin (j := 7) (by decide)⟩,
    aluSwap_aluSwap v⟩

/-! ### The flag-combination helper -/

/-- Settles O32: the helper's equation, and the chosen flags read back from the byte they make. -/
theorem flagCombination : Obligations.FlagCombination := by
  unfold Obligations.FlagCombination
  intro s z n h c chosen
  have hchosen (sel : FlagSel) (bit : Nat) : chosen sel bit = sel.pick (Bits.test s.regs.f bit) := by
    cases sel <;> rfl
  simp only [hchosen, State.setFlags_eq, Flags.test_toByte_7, Flags.test_toByte_6, Flags.test_toByte_5,
    Flags.test_toByte_4, Flags.toByte_low, and_self]

/-! ### Which forms write F -/

/-- If the result `r` of an instruction in `s` is a next state, F there is as it was in `s`. -/
def KeepsF (s : State) (r : Result) : Prop := ∀ t, r = .next t → t.regs.f = s.regs.f

namespace KeepsF

variable {s t t' : State}

theorem next (h : t.regs.f = s.regs.f) : KeepsF s (.next t) := by
  rintro _ ⟨⟩
  exact h

theorem ite {c : Prop} [Decidable c] (ht : t.regs.f = s.regs.f) (he : t'.regs.f = s.regs.f) :
    KeepsF s (.next (if c then t else t')) := by
  split
  · exact next ht
  · exact next he

theorem fault (e : Fault) : KeepsF s (.fault e) := by
  rintro _ ⟨⟩

end KeepsF

theorem setR16_f (s : State) (p : R16) (v : Word) : (s.setR16 p v).regs.f = s.regs.f := by cases p <;> rfl

theorem wr8_f (s : State) (o : Opd8) (v : Byte) : (s.wr8 o v).regs.f = s.regs.f := by
  cases o with
  | reg r => exact RegFile.set_regOf_f ..
  | atHL => rfl

/-- Settles O56: the forms that the table of R218 does not list write operand registers, SP, pairs other than AF,
memory and control state, and not F. -/
theorem onlyListedFormsTouchFlags : Obligations.OnlyListedFormsTouchFlags := by
  unfold Obligations.OnlyListedFormsTouchFlags
  intro i s t h
  rw [exec_eq_execForm] at h
  revert t
  generalize i.form = f
  open KeepsF in
  cases f with
  -- 41_load8.md
  | ldR8R8 | ldR8N8 | ldR8HL | ldABC | ldADE | ldAN16 | ldhAN8 | ldhAC => exact next (RegFile.set_regOf_f ..)
  | ldHLR8 | ldHLN8 | ldBCA | ldDEA | ldN16A | ldhN8A | ldhCA | ldAHLInc | ldAHLDec | ldHLIncA | ldHLDecA =>
    exact next rfl
  -- 42_load16_stack.md
  | ldR16N16 => exact next (setR16_f ..)
  | ldN16SP | ldSPHL | push => exact next rfl
  | pop q =>
    cases q with
    | AF => exact fun _ _ => trivial
    | BC | DE | HL => exact next rfl
  -- 44_arith16.md
  | incR16 | decR16 => exact next (setR16_f ..)
  -- 45_rotate_shift_bit.md
  | resR8 | resHL | setR8 | setHL => exact next ((wr8_f ..).trans (congrArg RegFile.f (State.rd8_regs ..)))
  -- 46_control_flow.md
  | jpN16 | jpHL | jrE8 | callN16 | ret | reti | rst => exact next rfl
  | jpCC | jrCC | callCC | retCC => exact ite rfl rfl
  -- 47_system.md
  | nop | halt | di | ei => exact next rfl
  | stop | illegal => exact fault _
  -- the table of R218
  | _ => exact fun _ _ => trivial

end Sys2Proof.Proofs
end

section
/-! PROOFS. The 8-bit loads (41_load8.md). Each form's end state is its definition carried out; the frame is that of a form
with no store or with one. Only a move of HL needs an argument: HL is as it was when it moves, and a step of -1 is a
subtraction. -/

namespace Sys2Proof.Proofs

open Sys2Proof.Machine Sys2Proof.Laws

/-! ### An instruction by its form -/

section ByForm

variable {i : Instr} {f : Form} {s t : State}

theorem encode_of_form (hf : i.form = f) : encode i = f.encode := congrArg Form.encode hf

/-- An instruction whose form stores nothing. -/
theorem runsTo_of_no_store (hf : i.form = f) (h : execForm f s = .next t)
    (hmem : ∀ a, t.byteAt a = s.byteAt a := by exact fun _ => rfl) : runsTo i s t [] :=
  ⟨by rw [exec_eq_execForm, hf, h], fun a _ => hmem a⟩

/-- An instruction whose form stores one byte. -/
theorem runsTo_of_one_store {w : Word} {v : Byte} (hf : i.form = f) (h : execForm f s = .next t)
    (hmem : ∀ a, t.byteAt a = (s.busWrite w v).byteAt a := by exact fun _ => rfl) : runsTo i s t [w] :=
  ⟨by rw [exec_eq_execForm, hf, h], byteAt_of_one_store hmem⟩

end ByForm

/-! ### The loads between registers -/

/-- Settles O33: neither form touches the bus. -/
theorem loadRegister : Obligations.LoadRegister := by
  unfold Obligations.LoadRegister
  intro i s
  generalize hf : i.form = f
  cases f with
  | ldR8R8 | ldR8N8 => exact ⟨encode_of_form hf, runsTo_of_no_store hf rfl⟩
  | _ => trivial

/-! ### The shared bodies of the loads and stores -/

section Bodies

variable (s : State) (a : Word) (v : Byte) (delta : Word) (length cycles : Nat)

theorem loadFrom_eq (d : Reg8) :
    loadFrom d a length cycles s = .next { s with
      regs := s.regs.set (regOf d) (s.byteAt a)
      pc := s.nextPc length
      wait := cycles - 1
      accesses := s.accesses ++ [.read a (s.byteAt a)] } := rfl

theorem storeTo_eq :
    storeTo a v length cycles s = .next { s.busWrite a v with
      pc := s.nextPc length
      wait := cycles - 1
      accesses := s.accesses ++ [.write a v] } := rfl

/-- The load of A leaves HL to be moved from where it was. -/
theorem loadThroughHL_eq :
    loadThroughHL delta s = .next { s with
      regs := (s.regs.set .A (s.byteAt (s.pair .HL))).setPair .HL (s.pair .HL + delta)
      pc := s.nextPc 1
      wait := 1
      accesses := s.accesses ++ [.read (s.pair .HL) (s.byteAt (s.pair .HL))] } := rfl

/-- The store leaves HL to be moved from where it was. -/
theorem storeThroughHL_eq :
    storeThroughHL delta s = .next { s.busWrite (s.pair .HL) s.regs.a with
      regs := s.regs.setPair .HL (s.pair .HL + delta)
      pc := s.nextPc 1
      wait := 1
      accesses := s.accesses ++ [.write (s.pair .HL) s.regs.a] } := rfl

end Bodies

/-! ### The loads from memory -/

/-- Settles O34: the six forms that leave HL share one body, the two that move it another. -/
theorem loadByteFromMemory : Obligations.LoadByteFromMemory := by
  unfold Obligations.LoadByteFromMemory
  intro i s hl loaded
  generalize hf : i.form = f
  cases f with
  | ldR8HL | ldABC | ldADE | ldAN16 | ldhAN8 | ldhAC =>
    exact ⟨encode_of_form hf, runsTo_of_no_store hf (loadFrom_eq ..)⟩
  | ldAHLInc => exact ⟨encode_of_form hf, runsTo_of_no_store hf (loadThroughHL_eq ..)⟩
  | ldAHLDec =>
    rw [BitVec.sub_eq_add_neg]
    exact ⟨encode_of_form hf, runsTo_of_no_store hf (loadThroughHL_eq ..)⟩
  | _ => trivial

/-! ### The stores to memory -/

/-- Settles O35: the seven forms that leave HL share one body, the two that move it another. -/
theorem storeByteToMemory : Obligations.StoreByteToMemory := by
  unfold Obligations.StoreByteToMemory
  intro i s hl stored
  generalize hf : i.form = f
  cases f with
  | ldHLR8 | ldHLN8 | ldBCA | ldDEA | ldN16A | ldhN8A | ldhCA =>
    exact ⟨encode_of_form hf, runsTo_of_one_store hf (storeTo_eq ..)⟩
  | ldHLIncA => exact ⟨encode_of_form hf, runsTo_of_one_store hf (storeThroughHL_eq ..)⟩
  | ldHLDecA =>
    rw [BitVec.sub_eq_add_neg]
    exact ⟨encode_of_form hf, runsTo_of_one_store hf (storeThroughHL_eq ..)⟩
  | _ => trivial

end Sys2Proof.Proofs
end

section
/-! PROOFS. The 16-bit loads and the stack (42_load16_stack.md). Each form's end state is its definition carried out by the
equations of the 16-bit accesses; a pop straight after a push gives the value back where both stack bytes are storage. -/

namespace Sys2Proof.Proofs

open Sys2Proof.Machine Sys2Proof.Laws

/-! ### An instruction by its form -/

section ByForm

variable {i : Instr} {f : Form} {s t : State}

theorem exec_of_form (hf : i.form = f) : exec i s = execForm f s := by rw [exec_eq_execForm, hf]

/-- An instruction whose form stores two bytes. -/
theorem runsTo_of_two_stores {w w' : Word} {v v' : Byte} (hf : i.form = f) (h : execForm f s = .next t)
    (hmem : ∀ a, t.byteAt a = ((s.busWrite w v).busWrite w' v').byteAt a := by exact fun _ => rfl) :
    runsTo i s t [w, w'] :=
  ⟨(exec_of_form hf).trans h, byteAt_of_two_stores hmem⟩

end ByForm

/-! ### Pairs of registers -/

/-- A pair other than AF holds what was written to it (R53); AF does not, for the low nibble of F (R54). -/
theorem pair_setPair (rf : RegFile) {q : Pair} (hq : q ≠ .AF) (v : Word) : (rf.setPair q v).pair q = v := by
  cases q with
  | AF => exact absurd rfl hq
  | BC | DE | HL => exact make16_high_low v

theorem setPair_make16 (rf : RegFile) (q : Pair) (hi lo : Byte) :
    rf.setPair q (Bits.make16 hi lo) = (rf.set (pairSlots q).1 hi).set (pairSlots q).2 lo := by
  rw [RegFile.setPair, high_make16, low_make16]

/-! ### The bodies -/

section Bodies

variable (s : State) (q : Pair) (w : Word)

theorem ldN16SP_eq :
    ldN16SP w s = .next { (s.busWrite w (Bits.low s.sp)).busWrite (w + 1) (Bits.high s.sp) with
      pc := s.nextPc 3
      wait := 4
      accesses := s.accesses ++ [.write w (Bits.low s.sp), .write (w + 1) (Bits.high s.sp)] } := by
  simp only [ldN16SP, State.memWrite16_eq, List.append_assoc, List.singleton_append]
  rfl

theorem push_eq :
    push q s = .next { (s.busWrite (s.sp - 1) (Bits.high (s.pair q))).busWrite (s.sp - 2) (Bits.low (s.pair q)) with
      sp := s.sp - 2
      pc := s.nextPc 1
      wait := 3
      accesses := s.accesses ++
        [.write (s.sp - 1) (Bits.high (s.pair q)), .write (s.sp - 2) (Bits.low (s.pair q))] } := by
  simp only [push, State.push16_eq, word_sub_one_sub_one, List.append_assoc, List.singleton_append]
  rfl

/-- The slots of the pair take the two bytes read, the low nibble of F staying zero (R54). -/
theorem pop_eq :
    pop q s = .next { s with
      regs := (s.regs.set (pairSlots q).1 (s.byteAt (s.sp + 1))).set (pairSlots q).2 (s.byteAt s.sp)
      sp := s.sp + 2
      pc := s.nextPc 1
      wait := 2
      accesses := s.accesses ++ [.read s.sp (s.byteAt s.sp), .read (s.sp + 1) (s.byteAt (s.sp + 1))] } := by
  simp only [pop, State.pop16_eq, State.setPair, setPair_make16, word_add_one_add_one, List.append_assoc,
    List.singleton_append]
  rfl

end Bodies

/-! ### The forms -/

/-- Settles O36: the four destinations of the immediate, and SP from HL; none touches the bus. -/
theorem loadPair : Obligations.LoadPair := by
  unfold Obligations.LoadPair
  intro i s
  generalize hf : i.form = f
  cases f with
  | ldR16N16 p w =>
    refine ⟨encode_of_form hf, ?_⟩
    cases p with
    | BC | DE | HL | SP => exact runsTo_of_no_store hf rfl
  | ldSPHL => exact ⟨encode_of_form hf, runsTo_of_no_store hf rfl⟩
  | _ => trivial

/-- Settles O37: the two writes are those of the 16-bit store and of the push, in their order. -/
theorem storePair : Obligations.StorePair := by
  unfold Obligations.StorePair
  intro i s
  generalize hf : i.form = f
  cases f with
  | ldN16SP => exact ⟨encode_of_form hf, runsTo_of_two_stores hf (ldN16SP_eq ..)⟩
  | push => exact ⟨encode_of_form hf, runsTo_of_two_stores hf (push_eq ..)⟩
  | _ => trivial

/-- Settles O38: each pair's slots are its two registers, and the bytes popped go to them. -/
theorem popPair : Obligations.PopPair := by
  unfold Obligations.PopPair
  intro i s
  generalize hf : i.form = f
  cases f with
  | pop q =>
    refine ⟨encode_of_form hf, ?_⟩
    cases q with
    | AF | BC | DE | HL => exact runsTo_of_no_store hf (pop_eq ..)
  | _ => trivial

/-! ### Load SP, push, pop -/

/-- A pop straight after a push copies the pair and restores SP, if the two stack bytes are storage: what the push's end
writes, PC and the wait counter, no read depends on. -/
theorem pop_after_push_copies {s : State} (hwf : s.memWf = true) (hhigh : s.storageAt (s.sp - 1) = true)
    (hlow : s.storageAt (s.sp - 2) = true) (p : Pair) {q : Pair} (hq : q ≠ .AF) :
    ∃ u v, push p s = .next u ∧ pop q u = .next v ∧ v.regs.pair q = s.regs.pair p ∧ v.sp = s.sp := by
  rw [← word_sub_one_sub_one] at hlow
  obtain ⟨hvalue, hsp⟩ := State.pop16_push16 hwf hhigh hlow (s.pair p)
  exact ⟨_, _, rfl, rfl, (pair_setPair _ hq _).trans hvalue, hsp⟩

/-- Settles O59: the load leaves the pushed pair and the memory to the push as they were, and sets SP to where it stands
after the pop. -/
theorem pushThenPopCopies : Obligations.PushThenPopCopies := by
  unfold Obligations.PushThenPopCopies
  intro i j k w p q s hi hj hk hq hwf hhigh hlow
  have hload : exec i s = .next { s with sp := w, pc := s.nextPc 3, wait := 2 } := exec_of_form hi
  have hmem : s.memWf = true := State.memWf_of_wf hwf
  obtain ⟨u, v, hpush, hpop, hpair, hsp⟩ :=
    pop_after_push_copies (s := { s with sp := w, pc := s.nextPc 3, wait := 2 }) hmem
      ((State.storageAt_congr rfl rfl _).trans hhigh) ((State.storageAt_congr rfl rfl _).trans hlow) p hq
  exact ⟨_, u, v, hload, (exec_of_form hj).trans hpush, (exec_of_form hk).trans hpop, hpair, hsp⟩

end Sys2Proof.Proofs
end

section
/-! PROOFS. The 8-bit arithmetic and logic (43_arith8.md). Every form sets flags and retires, so its end state is read
off one of four equations: for an accumulator operation, a step of a register, a step of the byte at HL and an adjustment
of A. -/

namespace Sys2Proof.Proofs

open Sys2Proof.Machine Sys2Proof.Laws

/-! ### The endings -/

section Endings

variable (s : State) (pc : Word) (cycles : Nat)

/-- The end of the three accumulator families (R330 to R353). -/
theorem retire_accumulate_eq (op : AluOp) (y : Byte) :
    (accumulate op y s).retire pc cycles = { s with
      regs := { s.regs with
        a := if op = .CP then s.regs.a else (aluApply op s.regs.a y (Bits.test s.regs.f 4)).value
        f := (aluApply op s.regs.a y (Bits.test s.regs.f 4)).flags.toByte }
      pc := pc
      wait := cycles - 1 } := by
  rw [accumulate_eq]
  rfl

/-- The end of a form that sets flags last: the other registers are as its earlier edits left them. -/
theorem retire_setFlags_eq (z n h c : FlagSel) :
    (s.setFlags z n h c).retire pc cycles = { s with
      regs := { s.regs with
        f := Flags.toByte
          { z := z.pick (Bits.test s.regs.f 7)
            n := n.pick (Bits.test s.regs.f 6)
            h := h.pick (Bits.test s.regs.f 5)
            c := c.pick (Bits.test s.regs.f 4) } }
      pc := pc
      wait := cycles - 1 } := by
  rw [State.setFlags_eq]
  rfl

variable (r : ValueFlags 8) (n : FlagSel)

/-- The end of `INC` and `DEC` of a register (R354, R356): the operand is not F, so C is kept from before. -/
theorem retire_stepped_register_eq (d : Reg8) :
    ((s.setReg (regOf d) r.value).setFlags (.to r.flags.z) n (.to r.flags.h) .keep).retire pc cycles = { s with
      regs := { s.regs.set (regOf d) r.value with
        f := Flags.toByte
          { z := r.flags.z, n := n.pick (Bits.test s.regs.f 6), h := r.flags.h, c := Bits.test s.regs.f 4 } }
      pc := pc
      wait := cycles - 1 } := by
  rw [retire_setFlags_eq, State.setReg_regs, RegFile.set_regOf_f]
  rfl

/-- The end of `INC` and `DEC` of the byte at HL (R355, R357): one read, then one write. -/
theorem retire_stepped_atHL_eq :
    (((s.rd8 .atHL).2.wr8 .atHL r.value).setFlags (.to r.flags.z) n (.to r.flags.h) .keep).retire pc cycles =
      { s.busWrite (s.pair .HL) r.value with
        regs := { s.regs with
          f := Flags.toByte
            { z := r.flags.z, n := n.pick (Bits.test s.regs.f 6), h := r.flags.h, c := Bits.test s.regs.f 4 } }
        pc := pc
        wait := cycles - 1
        accesses := s.accesses ++ [.read (s.pair .HL) (s.byteAt (s.pair .HL)), .write (s.pair .HL) r.value] } := by
  rw [State.rd8_wr8_atHL, List.append_assoc, retire_setFlags_eq]
  rfl

end Endings

/-! ### The accumulator operations -/

/-- Settles O39: the second operand is a register. -/
theorem accumulatorRegister : Obligations.AccumulatorRegister := by
  unfold Obligations.AccumulatorRegister
  intro i s
  generalize hf : i.form = f
  cases f with
  | aluR8 => exact ⟨encode_of_form hf, runsTo_of_no_store hf (congrArg _ (retire_accumulate_eq ..))⟩
  | _ => trivial

/-- Settles O40: the second operand is read first, which only adds to the record of accesses. -/
theorem accumulatorMemory : Obligations.AccumulatorMemory := by
  unfold Obligations.AccumulatorMemory
  intro i s
  generalize hf : i.form = f
  cases f with
  | aluHL => exact ⟨encode_of_form hf, runsTo_of_no_store hf (congrArg _ (retire_accumulate_eq ..))⟩
  | _ => trivial

/-- Settles O41: the second operand is the immediate. -/
theorem accumulatorImmediate : Obligations.AccumulatorImmediate := by
  unfold Obligations.AccumulatorImmediate
  intro i s
  generalize hf : i.form = f
  cases f with
  | aluN8 => exact ⟨encode_of_form hf, runsTo_of_no_store hf (congrArg _ (retire_accumulate_eq ..))⟩
  | _ => trivial

/-! ### `INC` and `DEC` of a byte -/

/-- Settles O42: the two operations share one ending for a register and one for the byte at HL. -/
theorem incrementDecrementByte : Obligations.IncrementDecrementByte := by
  unfold Obligations.IncrementDecrementByte
  intro i s hl y carry newF inRegister inMemory
  generalize hf : i.form = f
  cases f with
  | incR8 | decR8 => exact ⟨encode_of_form hf, runsTo_of_no_store hf (congrArg _ (retire_stepped_register_eq ..))⟩
  | incHL | decHL => exact ⟨encode_of_form hf, runsTo_of_one_store hf (congrArg _ (retire_stepped_atHL_eq ..))⟩
  | _ => trivial

/-! ### The adjustments of A -/

theorem complement8_eq_not (b : Byte) : Bits.complement8 b = ~~~b := BitVec.xor_allOnes

/-- Settles O43: each form writes A or leaves it, then chooses its four flags; a write of A leaves the old flags to be
kept. -/
theorem accumulatorAdjustments : Obligations.AccumulatorAdjustments := by
  unfold Obligations.AccumulatorAdjustments
  intro i s flag adjusted
  generalize hf : i.form = f
  cases f with
  | daa | scf | ccf => exact ⟨encode_of_form hf, runsTo_of_no_store hf (congrArg _ (retire_setFlags_eq ..))⟩
  | cpl =>
    rw [← complement8_eq_not]
    exact ⟨encode_of_form hf, runsTo_of_no_store hf (congrArg _ (retire_setFlags_eq ..))⟩
  | _ => trivial

end Sys2Proof.Proofs
end

section
/-! PROOFS. The 16-bit arithmetic (44_arith16.md). Three forms write a sum of words and set flags: their end state is read
off the ending of the forms that set flags last. `INC` and `DEC` only write their operand, a pair or SP. -/

namespace Sys2Proof.Proofs

open Sys2Proof.Machine Sys2Proof.Laws

/-- Settles O44: the write of the sum, to HL or to SP, leaves the old flags to be kept; no form touches the bus. -/
theorem wideArithmetic : Obligations.WideArithmetic := by
  unfold Obligations.WideArithmetic
  intro i s operand written
  generalize hf : i.form = f
  cases f with
  | addHLR16 p =>
    refine ⟨encode_of_form hf, ?_⟩
    cases p with
    | BC | DE | HL | SP => exact runsTo_of_no_store hf (congrArg _ (retire_setFlags_eq ..))
  | incR16 p | decR16 p =>
    refine ⟨encode_of_form hf, ?_⟩
    cases p with
    | BC | DE | HL | SP => exact runsTo_of_no_store hf rfl
  | addSPE8 | ldHLSPE8 => exact ⟨encode_of_form hf, runsTo_of_no_store hf (congrArg _ (retire_setFlags_eq ..))⟩
  | _ => trivial

end Sys2Proof.Proofs
end

section
/-! PROOFS. The rotates, shifts and bit instructions (45_rotate_shift_bit.md). A form reads its byte, writes the value and
chooses flags, or does one of the two; what it stores it stores at HL, and HL and F are read before anything is
written. -/

namespace Sys2Proof.Proofs

open Sys2Proof.Machine Sys2Proof.Laws

/-! ### The endings -/

section Endings

variable (s : State) (pc : Word) (cycles : Nat) (v : Byte) (z n h c : FlagSel)

/-- The end of a form that writes an operand register and sets flags: the operand is not F, so a kept flag is the flag
from before. -/
theorem retire_setReg_setFlags_eq (r : Reg8) :
    ((s.setReg (regOf r) v).setFlags z n h c).retire pc cycles = { s with
      regs := { s.regs.set (regOf r) v with
        f := Flags.toByte
          { z := z.pick (Bits.test s.regs.f 7)
            n := n.pick (Bits.test s.regs.f 6)
            h := h.pick (Bits.test s.regs.f 5)
            c := c.pick (Bits.test s.regs.f 4) } }
      pc := pc
      wait := cycles - 1 } := by
  rw [retire_setFlags_eq, State.setReg_regs, RegFile.set_regOf_f]
  rfl

/-- The end of a form that reads the byte at HL and writes it back changed: the write comes second, and goes where the
read was. -/
theorem retire_rewritten_atHL_eq :
    ((s.rd8 .atHL).2.wr8 .atHL v).retire pc cycles = { s.busWrite (s.pair .HL) v with
      pc := pc
      wait := cycles - 1
      accesses := s.accesses ++ [.read (s.pair .HL) (s.byteAt (s.pair .HL)), .write (s.pair .HL) v] } := by
  rw [State.rd8_wr8_atHL, List.append_assoc]
  rfl

/-- As `retire_rewritten_atHL_eq`, for a form that sets flags after its write. -/
theorem retire_rewritten_atHL_setFlags_eq :
    (((s.rd8 .atHL).2.wr8 .atHL v).setFlags z n h c).retire pc cycles = { s.busWrite (s.pair .HL) v with
      regs := { s.regs with
        f := Flags.toByte
          { z := z.pick (Bits.test s.regs.f 7)
            n := n.pick (Bits.test s.regs.f 6)
            h := h.pick (Bits.test s.regs.f 5)
            c := c.pick (Bits.test s.regs.f 4) } }
      pc := pc
      wait := cycles - 1
      accesses := s.accesses ++ [.read (s.pair .HL) (s.byteAt (s.pair .HL)), .write (s.pair .HL) v] } := by
  rw [State.rd8_wr8_atHL, List.append_assoc, retire_setFlags_eq]
  rfl

end Endings

/-! ### The rotates and shifts -/

/-- Settles O45: the rotates of A and the forms of a register write their operand, then force or compute all four
flags. -/
theorem rotateShiftRegister : Obligations.RotateShiftRegister := by
  unfold Obligations.RotateShiftRegister
  intro i s carry
  generalize hf : i.form = f
  cases f with
  | accRot => exact ⟨encode_of_form hf, runsTo_of_no_store hf (congrArg _ (retire_setFlags_eq ..))⟩
  | shiftR8 => exact ⟨encode_of_form hf, runsTo_of_no_store hf (congrArg _ (retire_setReg_setFlags_eq ..))⟩
  | _ => trivial

/-- Settles O46: the value written is that of the byte read. -/
theorem rotateShiftMemory : Obligations.RotateShiftMemory := by
  unfold Obligations.RotateShiftMemory
  intro i s carry hl y
  generalize hf : i.form = f
  cases f with
  | shiftHL => exact ⟨encode_of_form hf, runsTo_of_one_store hf (congrArg _ (retire_rewritten_atHL_setFlags_eq ..))⟩
  | _ => trivial

/-! ### The bit instructions -/

/-- Settles O47: nothing but F is written; a read at HL only adds to the record of accesses. -/
theorem bitTest : Obligations.BitTest := by
  unfold Obligations.BitTest
  intro i s hl newF
  generalize hf : i.form = f
  cases f with
  | bitR8 | bitHL => exact ⟨encode_of_form hf, runsTo_of_no_store hf (congrArg _ (retire_setFlags_eq ..))⟩
  | _ => trivial

/-- Settles O48: the value written is the operand's byte with the one bit replaced. -/
theorem bitResetAndSet : Obligations.BitResetAndSet := by
  unfold Obligations.BitResetAndSet
  intro i s hl y inRegister inMemory
  generalize hf : i.form = f
  cases f with
  | resR8 u | setR8 u => exact ⟨encode_of_form hf, _, Bits.test_set _ u _, runsTo_of_no_store hf rfl⟩
  | resHL u | setHL u =>
    exact ⟨encode_of_form hf, _, Bits.test_set _ u _,
      runsTo_of_one_store hf (congrArg _ (retire_rewritten_atHL_eq ..))⟩
  | _ => trivial

end Sys2Proof.Proofs
end

section
/-! PROOFS. Jumps, calls, returns and restarts (46_control_flow.md). A jump only writes PC and the wait counter; a call
pushes the address after it, a return pops, and each conditional form is one of its two branches. -/

namespace Sys2Proof.Proofs

open Sys2Proof.Machine Sys2Proof.Laws

/-! ### The bodies -/

section Bodies

variable (s : State) (target : Word) (length cycles : Nat)

theorem callTo_eq :
    s.callTo target length cycles =
      { (s.busWrite (s.sp - 1) (Bits.high (s.nextPc length))).busWrite (s.sp - 2) (Bits.low (s.nextPc length)) with
        sp := s.sp - 2
        pc := target
        wait := cycles - 1
        accesses := s.accesses ++
          [.write (s.sp - 1) (Bits.high (s.nextPc length)), .write (s.sp - 2) (Bits.low (s.nextPc length))] } := by
  simp only [State.callTo, State.push16_eq, word_sub_one_sub_one, List.append_assoc, List.singleton_append]
  rfl

theorem returnTo_eq :
    s.returnTo cycles = { s with
      sp := s.sp + 2
      pc := s.byteAt (s.sp + 1) ++ s.byteAt s.sp
      wait := cycles - 1
      accesses := s.accesses ++ [.read s.sp (s.byteAt s.sp), .read (s.sp + 1) (s.byteAt (s.sp + 1))] } := by
  simp only [State.returnTo, State.pop16_eq, word_add_one_add_one, List.append_assoc, List.singleton_append]
  rfl

/-- `RETI` is a return that sets IME too (R459). -/
theorem reti_eq_returnTo : reti s = .next { s.returnTo 4 with ime := true } := rfl

end Bodies

/-! ### The jumps -/

/-- Settles O49: the conditions are the two flags or their complements, and no branch touches the bus. -/
theorem jumps : Obligations.Jumps := by
  unfold Obligations.Jumps
  intro i s holds
  have hcond : ∀ c, s.cond c = holds c
    | .NZ | .Z | .NC | .C => rfl
  generalize hf : i.form = f
  cases f with
  | jpN16 | jpHL | jrE8 => exact ⟨encode_of_form hf, runsTo_of_no_store hf rfl⟩
  | jpCC c | jrCC c =>
    exact ⟨encode_of_form hf,
      fun taken => runsTo_of_no_store hf (congrArg _ (if_pos ((hcond c).trans taken))),
      fun untaken => runsTo_of_no_store hf (congrArg _ (if_neg (ne_true_of_eq_false ((hcond c).trans untaken))))⟩
  | _ => trivial

/-! ### The calls and restarts -/

/-- Settles O50: every call that is taken, and every restart, is the one push of the address after it. -/
theorem callsAndRestarts : Obligations.CallsAndRestarts := by
  unfold Obligations.CallsAndRestarts
  intro i s called
  generalize hf : i.form = f
  cases f with
  | callN16 | rst => exact ⟨encode_of_form hf, runsTo_of_two_stores hf (congrArg _ (callTo_eq ..))⟩
  | callCC =>
    exact ⟨encode_of_form hf,
      fun taken => runsTo_of_two_stores hf (congrArg _ ((if_pos taken).trans (callTo_eq ..))),
      fun untaken => runsTo_of_no_store hf (congrArg _ (if_neg (ne_true_of_eq_false untaken)))⟩
  | _ => trivial

/-! ### The returns -/

/-- Settles O51: every return that is taken is the one pop into PC; `RETI` then sets IME. -/
theorem returns : Obligations.Returns := by
  unfold Obligations.Returns
  intro i s lo hi popped
  generalize hf : i.form = f
  cases f with
  | ret => exact ⟨encode_of_form hf, runsTo_of_no_store hf (congrArg _ (returnTo_eq ..))⟩
  | retCC =>
    exact ⟨encode_of_form hf,
      fun taken => runsTo_of_no_store hf (congrArg _ ((if_pos taken).trans (returnTo_eq ..))),
      fun untaken => runsTo_of_no_store hf (congrArg _ (if_neg (ne_true_of_eq_false untaken)))⟩
  | reti =>
    have hreti : reti s = .next { popped 3 with ime := true } := by rw [reti_eq_returnTo, returnTo_eq]
    exact ⟨encode_of_form hf, runsTo_of_no_store hf hreti⟩
  | _ => trivial

end Sys2Proof.Proofs
end

section
/-! PROOFS. The system instructions and the undefined encodings (47_system.md). The four that complete touch only PC, the
wait counter and IME or the halted flag; the twelve stops answer with a fault. -/

namespace Sys2Proof.Proofs

open Sys2Proof.Machine Sys2Proof.Laws

/-- Settles O52: none of the four touches the bus. -/
theorem systemInstructions : Obligations.SystemInstructions := by
  unfold Obligations.SystemInstructions
  intro s
  exact
    ⟨rfl, runsTo_of_no_store (f := .nop) rfl rfl,
      rfl, runsTo_of_no_store (f := .halt) rfl rfl,
      rfl, runsTo_of_no_store (f := .di) rfl rfl,
      rfl, runsTo_of_no_store (f := .ei) rfl rfl⟩

/-- The rows without a descriptor are the eleven of R164: such a row's byte decodes to it, and only the undefined
opcodes decode to a row without a descriptor. -/
theorem mem_undefinedOpcodes_of_form {i : Instr} {op : Byte} (hf : i.form = .illegal op) : op ∈ undefinedOpcodes := by
  have hbyte : encode i = [op] := encode_of_form hf
  have hdecode : decode3 op 0 0 = i := decode3_of_encode_isPrefix ⟨[0, 0], by rw [hbyte]; rfl⟩
  have hnone : i.wellFormed = false := congrArg Form.hasDescriptor hf
  exact (elevenUndefinedOpcodes op 0 0).1 (hdecode ▸ hnone)

/-- Settles O53: the faults are those of the forms, and the byte of a row without a descriptor is an undefined opcode. -/
theorem stopAndIllegalFault : Obligations.StopAndIllegalFault := by
  unfold Obligations.StopAndIllegalFault
  intro i s
  generalize hf : i.form = f
  cases f with
  | stop => exact ⟨encode_of_form hf, exec_of_form hf⟩
  | illegal => exact ⟨encode_of_form hf, mem_undefinedOpcodes_of_form hf, exec_of_form hf⟩
  | _ => trivial

end Sys2Proof.Proofs
end

section
/-! PROOFS. The cycle (60_exceptions.md): what has arrived when CORE's step begins, then the ways that step ends. Each is
the case of `coreStep` that the hypotheses select, on the state the cycle begins in. -/

namespace Sys2Proof.Proofs

open Sys2Proof.Machine Sys2Proof.Laws

/-! ### The sources and their bits -/

theorem index_lt_five (k : IrqSource) : k.index < 5 := by cases k <;> decide

theorem test_and (x y : Byte) (i : Nat) : Bits.test (x &&& y) i = (Bits.test x i && Bits.test y i) := BitVec.getLsbD_and

/-- A write of a source's bit leaves the bit of every other source alone. -/
theorem test_set_of_index_ne (v : Byte) {w k : IrqSource} (h : k.index ≠ w.index) (b : Bool) :
    Bits.test (Bits.set v w.index b) k.index = Bits.test v k.index := by
  have hw : (BitVec.ofNat 3 w.index).toNat = w.index := by cases w <;> rfl
  have hset := Bits.test_set v (BitVec.ofNat 3 w.index) b k.index (by have := index_lt_five k; omega)
  rwa [hw, if_neg h] at hset

/-- The sources are bits 4..0. -/
theorem test_of_sources_clear {m : Byte} (h : m &&& 0x1F = 0) (k : IrqSource) : Bits.test m k.index = false := by
  have hmask : Bits.test (0x1F : Byte) k.index = true := by cases k <;> rfl
  have hclear : Bits.test (m &&& 0x1F) k.index = false := by rw [h]; exact BitVec.getLsbD_zero
  rwa [test_and, hmask, Bool.and_true] at hclear

/-- A request line reaches the bit of its own source (R510). -/
theorem test_request (q : BitVec 5) (k : IrqSource) : Bits.test (q.setWidth 8) k.index = Bits.test q k.index := by
  cases k <;> simp [Bits.test, IrqSource.index]

/-- No request line reaches bits 7..5. -/
theorem test_request_of_ge (q : BitVec 5) {j : Nat} (hj : 5 ≤ j) : Bits.test (q.setWidth 8) j = false := by
  simp [Bits.test, BitVec.getLsbD_of_ge q j hj]

/-! ### Pending -/

section Pending

variable {s : State}

theorem pending_of_ne_zero (h : (s.ie &&& s.ifr) ≠ 0) : s.pending = true := decide_eq_true h

theorem pending_of_eq_zero (h : (s.ie &&& s.ifr) = 0) : s.pending = false := decide_eq_false (not_not.2 h)

theorem pending_of_test {i : Nat} (h : Bits.test (s.ie &&& s.ifr) i = true) : s.pending = true := by
  refine pending_of_ne_zero fun hzero => ?_
  rw [hzero] at h
  exact absurd h (by simp [Bits.test])

end Pending

/-! ### What arrives before the step -/

/-- The oldest write of another master is done first, and then the cycle begins with the others (R120). -/
theorem beginCycle_cons_write {s : State} {r : Bool} {a : Word} {v : Byte} {ws : List (Word × Byte)} {q : BitVec 5}
    {rest : List CycleInput} (h : s.inputs = { reset := r, writes := (a, v) :: ws, irq := q } :: rest) :
    s.beginCycle = { s.busWrite a v with inputs := { reset := r, writes := ws, irq := q } :: rest }.beginCycle := by
  simp only [State.beginCycle, State.input, h, List.headD_cons, List.tail_cons, State.externalWrites]
  rfl

/-- Settles O7: the merge sets the bits of the request lines, which are those of the five sources. -/
theorem inputsArriveBeforeTheStep : Obligations.InputsArriveBeforeTheStep := by
  unfold Obligations.InputsArriveBeforeTheStep
  refine ⟨fun s hw => ?_, fun s r a v ws q rest h => beginCycle_cons_write h⟩
  have hbegin := State.beginCycle_of_no_writes hw
  have hif : s.beginCycle.ifr = s.ifr ||| s.input.irq.setWidth 8 := congrArg State.ifr hbegin
  refine ⟨hbegin, fun k => ?_, fun j hj => ?_⟩
  · rw [hif, test_or, test_request]
  · rw [hif, test_or, test_request_of_ge _ hj, Bool.or_false]

/-! ### Busy -/

section Idle

variable {s : State}

theorem step_of_busy (hr : s.input.reset = false) (hh : s.halted = false) (hw : 0 < s.wait) :
    step s = .next { s.beginCycle with wait := s.wait - 1 } := by
  obtain ⟨-, -, -, -, hhalted, hwait, -⟩ := s.beginCycle_frame
  rw [step_of_no_reset hr, coreStep_of_busy (hhalted.trans hh) (hwait ▸ hw), hwait]

theorem no_reset_of_no_inputs (h : s.inputs = []) : s.input.reset = false := by simp [State.input, h, CycleInput.quiet]

/-- A CORE that waits `n` cycles, with nothing happening outside, runs through them in `n` steps. -/
theorem run_of_busy (n : Nat) (hi : s.inputs = []) (hh : s.halted = false) (hw : s.wait = n) :
    Host.Core.run core n s = .next { s with
      wait := 0
      cycle := s.cycle + n
      accesses := if n = 0 then s.accesses else [] } := by
  induction n generalizing s with
  | zero =>
    show Host.Outcome.next s = .next { s with wait := 0 }
    rw [← hw]
  | succ n ih =>
    have hstep := step_of_busy (no_reset_of_no_inputs hi) hh (by omega)
    rw [State.beginCycle_of_no_inputs hi] at hstep
    rw [run_succ hstep, ih (s := { s with wait := s.wait - 1, cycle := s.cycle + 1, accesses := [] }) hi hh
      (Nat.sub_eq_of_eq_add hw)]
    simp [Nat.add_assoc, Nat.add_comm 1]

/-! ### Halted -/

theorem step_of_halted (hr : s.input.reset = false) (hh : s.halted = true)
    (hp : (s.beginCycle.ie &&& s.beginCycle.ifr) = 0) : step s = .next s.beginCycle := by
  obtain ⟨-, -, -, -, hhalted, -⟩ := s.beginCycle_frame
  rw [step_of_no_reset hr, coreStep_of_halted (hhalted.trans hh) (pending_of_eq_zero hp)]

/-- With nothing happening outside a halted CORE with nothing pending stays as it is. -/
theorem run_of_halted (n : Nat) (hh : s.halted = true) (hi : s.inputs = []) (hp : (s.ie &&& s.ifr) = 0) :
    Host.Core.run core n s = .next { s with
      cycle := s.cycle + n
      accesses := if n = 0 then s.accesses else [] } := by
  induction n generalizing s with
  | zero => rfl
  | succ n ih =>
    have hbegin := State.beginCycle_of_no_inputs hi
    have hstep := step_of_halted (no_reset_of_no_inputs hi) hh (by rw [hbegin]; exact hp)
    rw [hbegin] at hstep
    rw [run_succ hstep, ih (s := { s with cycle := s.cycle + 1, accesses := [] }) hh hi hp]
    simp [Nat.add_assoc, Nat.add_comm 1]

end Idle

/-- Settles O8: one busy step, and the induction over the steps of a wait. -/
theorem busyStepsOnlyCountDown : Obligations.BusyStepsOnlyCountDown := by
  unfold Obligations.BusyStepsOnlyCountDown
  refine ⟨fun s hr hh hw => ⟨step_of_busy hr hh hw, ?_⟩, fun s hi hh => run_of_busy s.wait hi hh rfl⟩
  obtain ⟨-, -, -, -, -, -, -, -, haccesses⟩ := s.beginCycle_frame
  exact haccesses

/-- Settles O9: one halted step, which only begins its cycle, and the induction over the steps of a run. -/
theorem haltedStaysHalted : Obligations.HaltedStaysHalted := by
  unfold Obligations.HaltedStaysHalted
  refine ⟨fun s hr hh hp => ?_, fun n s hh hi hp => run_of_halted n hh hi hp⟩
  obtain ⟨hregs, hsp, hpc, hime, hhalted, hwait, -, -, haccesses⟩ := s.beginCycle_frame
  exact ⟨step_of_halted hr hh hp, haccesses, hregs, hsp, hpc, hime, hhalted.trans hh, hwait⟩

/-! ### Wake -/

/-- Settles O10: the beginning of a cycle does not look at the two fields that a wake writes. -/
theorem wakeFallsThrough : Obligations.WakeFallsThrough := by
  unfold Obligations.WakeFallsThrough
  intro s hr hh hp
  have hr' : ({ s with halted := false, wait := 0 } : State).input.reset = false := hr
  obtain ⟨-, -, -, -, hhalted, -⟩ := s.beginCycle_frame
  rw [step_of_no_reset hr, step_of_no_reset hr', State.beginCycle_set_halted_wait s false 0,
    coreStep_of_wake (hhalted.trans hh) (pending_of_ne_zero hp)]

/-! ### Taking an interrupt -/

/-- All an interrupt dispatch of source `k` does, written out (R503). -/
theorem dispatchInterrupt_of_source {s : State} {k : IrqSource} (h : servicedSource s.enabledRequests = some k) :
    dispatchInterrupt s = .next
      { (({ s with ifr := Bits.set s.ifr k.index false, ime := false } : State).busWrite (s.sp - 1)
          (Bits.high s.pc)).busWrite (s.sp - 2) (Bits.low s.pc) with
        sp := s.sp - 2
        pc := 0x0040 + BitVec.ofNat 16 (8 * k.index)
        wait := 4
        accesses := s.accesses ++ [.write (s.sp - 1) (Bits.high s.pc), .write (s.sp - 2) (Bits.low s.pc)] } := by
  rw [dispatchInterrupt_eq h, State.push16_eq]
  simp only [word_sub_one_sub_one, List.append_assoc, List.singleton_append]
  rfl

/-- A dispatch that completes has a source, the least one pending and enabled. -/
theorem servicedSource_of_dispatch {s t : State} (h : dispatchInterrupt s = .next t) :
    ∃ k, servicedSource s.enabledRequests = some k := by
  cases hk : servicedSource s.enabledRequests with
  | none => rw [dispatchInterrupt_fault hk] at h; cases h
  | some k => exact ⟨k, rfl⟩

/-- An active step with IME set and something pending is a dispatch, in the state its cycle begins in. -/
theorem step_of_interrupt {s : State} (hr : s.input.reset = false) (hh : s.halted = false) (hw : s.wait = 0)
    (hi : s.ime = true) (hp : s.beginCycle.pending = true) : step s = dispatchInterrupt s.beginCycle := by
  obtain ⟨-, -, -, hime, hhalted, hwait, -⟩ := s.beginCycle_frame
  rw [step_of_no_reset hr, coreStep_of_interrupt (hhalted.trans hh) (hwait.trans hw) (hime.trans hi) hp]

/-- Settles O11: the source is the one the dispatch finds, and the cycle begins with an empty record. -/
theorem interruptIsTaken : Obligations.InterruptIsTaken := by
  unfold Obligations.InterruptIsTaken
  intro s k b hr hh hw hi hk hleast c
  have hsource : servicedSource b.enabledRequests = some k := (servicedSource_eq_some_iff _ k).2 ⟨hk, hleast⟩
  obtain ⟨-, -, -, -, -, -, -, -, haccesses⟩ := s.beginCycle_frame
  rw [step_of_interrupt hr hh hw hi (pending_of_test hk), dispatchInterrupt_of_source hsource, haccesses]
  rfl

theorem busWrite_ifr_of_ne (s : State) {a : Word} (h : a ≠ Config.addrIF) (v : Byte) : (s.busWrite a v).ifr = s.ifr :=
  if_neg h

/-- Settles O12: the least source is no higher than `j`, so its bit is not that of `k`. -/
theorem lowestSourceFirst : Obligations.LowestSourceFirst := by
  unfold Obligations.LowestSourceFirst
  intro s t j k hjk hj hk hsp1 hsp2 ht
  obtain ⟨w, hw⟩ := servicedSource_of_dispatch ht
  obtain ⟨hpending, hleast⟩ := (servicedSource_eq_some_iff _ w).1 hw
  have hwj : w.index ≤ j.index := by
    by_contra hlt
    have hclear : Bits.test (s.ie &&& s.ifr) j.index = false := hleast j (by omega)
    rw [hj] at hclear
    cases hclear
  rw [dispatchInterrupt_of_source hw] at ht
  cases ht
  have hif : (((({ s with ifr := Bits.set s.ifr w.index false, ime := false } : State).busWrite (s.sp - 1)
      (Bits.high s.pc)).busWrite (s.sp - 2) (Bits.low s.pc)).ifr) = Bits.set s.ifr w.index false := by
    rw [busWrite_ifr_of_ne _ hsp2, busWrite_ifr_of_ne _ hsp1]
  refine ⟨w, hwj, hpending, rfl, hif, ?_⟩
  rw [test_and, Bool.and_eq_true] at hk
  exact (congrArg (Bits.test · k.index) hif).trans ((test_set_of_index_ne s.ifr (by omega) false).trans hk.2)

/-- Settles O13: the dispatch finds no source. -/
theorem noSourceToDispatch : Obligations.NoSourceToDispatch := by
  unfold Obligations.NoSourceToDispatch
  intro s b hr hh hw hi hp hclear
  have hnone : servicedSource b.enabledRequests = none :=
    (servicedSource_eq_none_iff _).2 (test_of_sources_clear hclear)
  rw [step_of_interrupt hr hh hw hi (pending_of_ne_zero hp), dispatchInterrupt_fault hnone]
  rfl

/-- Settles O14: the pop undoes the push, and what the dispatch writes besides neither of them reads. -/
theorem returnUndoesEntry : Obligations.ReturnUndoesEntry := by
  unfold Obligations.ReturnUndoesEntry
  intro s t hwf hhigh hlow ht
  obtain ⟨k, hk⟩ := servicedSource_of_dispatch ht
  rw [dispatchInterrupt_eq hk] at ht
  cases ht
  rw [← word_sub_one_sub_one] at hlow
  let entry : State := { s with ifr := Bits.set s.ifr k.index false, ime := false }
  have hmem : entry.memWf = true := State.memWf_of_wf hwf
  have hstorage (a : Word) : entry.storageAt a = s.storageAt a := State.storageAt_congr (s := s) (t := entry) rfl rfl a
  obtain ⟨hpc, hsp⟩ := State.pop16_push16 hmem ((hstorage _).trans hhigh) ((hstorage _).trans hlow) s.pc
  exact ⟨_, rfl, hpc, hsp, rfl, rfl, rfl⟩

/-! ### Executing an instruction -/

/-- Three bytes that decode as a list decode to the same instruction by themselves. -/
theorem decode3_of_decode {op b1 b2 : Byte} {i : Instr} {rest : List Byte} (h : decode [op, b1, b2] = .ok (i, rest)) :
    decode3 op b1 b2 = i :=
  decode3_of_encode_isPrefix ⟨rest, (eq_encode_append_of_decode h).symm⟩

/-- A CORE that is active once woken, and takes no interrupt, executes. -/
theorem coreStep_of_execute_awake {s : State} (h : s.wake.halted = false) (hw : s.wake.wait = 0)
    (hi : (s.wake.ime && s.wake.pending) = false) : coreStep s = executeInstruction s.wake := by
  have hawake : coreStep s = coreStep s.wake := by simp only [coreStep, State.wake_of_not_halted h]
  rw [hawake, coreStep_of_execute h hw hi]

/-- Settles O6: the fetched bytes are the three at PC, and the record they are noted on is empty. -/
theorem stepRunsDecodedInstruction : Obligations.StepRunsDecodedInstruction := by
  unfold Obligations.StepRunsDecodedInstruction
  intro s i rest b hr hh hw hi hdecode
  have hfetched : b.fetched = i := by
    have hfirst : b.nextPc 0 = b.pc := BitVec.add_zero b.pc
    rw [State.fetched, State.fetchByte, hfirst]
    exact decode3_of_decode hdecode
  have haccesses : b.accesses = [] := by
    obtain ⟨-, -, -, -, -, -, -, -, hempty⟩ := s.beginCycle_frame
    exact (State.wake_accesses _).trans hempty
  rw [step_of_no_reset hr, coreStep_of_execute_awake hh hw hi, executeInstruction, hfetched, State.noteFetches_eq,
    haccesses]
  rfl

end Sys2Proof.Proofs
end

section
/-! PROOFS. What every instruction that completes answers with (R520, R504, R580), form by form: that it completes, what
it charges and where PC goes, and how often it uses the bus; from the last, the bound on a step's accesses (R500). Then
reset (R560 to R566). -/

namespace Sys2Proof.Proofs

open Sys2Proof.Machine Sys2Proof.Laws

/-! ### An instruction is known by its form -/

theorem form_injective {i j : Instr} (h : i.form = j.form) : i = j := by
  have hdecode := decode_encode_append i []
  rw [encode_of_form h, show j.form.encode = encode j from rfl, decode_encode_append] at hdecode
  cases hdecode
  rfl

/-! ### Completion -/

theorem execForm_next (f : Form) (s : State) (hdefined : f.hasDescriptor = true) (hstop : f ≠ .stop) :
    ∃ t, execForm f s = .next t := by
  cases f with
  | stop => exact absurd rfl hstop
  | illegal => cases hdefined
  | _ => exact ⟨_, rfl⟩

theorem exec_ne_refused (i : Instr) (s : State) (r : Refusal) : exec i s ≠ .refused r := by
  rw [exec_eq_execForm]
  generalize i.form = f
  cases f <;> exact nofun

theorem dispatchInterrupt_ne_refused (s : State) (r : Refusal) : dispatchInterrupt s ≠ .refused r := by
  unfold dispatchInterrupt
  split <;> exact nofun

theorem step_ne_refused (s : State) (r : Refusal) : step s ≠ .refused r := by
  cases hr : s.input.reset with
  | true =>
    rw [step_of_reset hr]
    exact nofun
  | false =>
    rw [step_of_no_reset hr]
    rcases coreStep_cases s.beginCycle with ⟨-, e⟩ | ⟨-, -, e⟩ | ⟨-, -, -, -, e⟩ | ⟨-, -, -, e⟩ <;> rw [e]
    · exact nofun
    · exact nofun
    · exact dispatchInterrupt_ne_refused _ r
    · exact exec_ne_refused _ _ r

/-- Settles O54: only the stops among the forms do not answer a next state, and they answer a fault. -/
theorem everyOtherInstructionCompletes : Obligations.EveryOtherInstructionCompletes := by
  unfold Obligations.EveryOtherInstructionCompletes
  refine ⟨fun i s hwf hstop => ?_, step_ne_refused⟩
  rw [exec_eq_execForm]
  exact execForm_next i.form s hwf fun hform => hstop (form_injective (j := .stop) hform)

/-! ### Cost and length -/

section Conditional

variable {c : Bool} {taken untaken : State}

/-- A conditional instruction charges the extra where its condition holds. -/
theorem wait_ite {base extra : Nat} (htaken : taken.wait + 1 = base + extra) (huntaken : untaken.wait + 1 = base) :
    (if c then taken else untaken).wait + 1 = base + if c then extra else 0 := by
  cases c with
  | true => exact htaken
  | false => exact huntaken

/-- A conditional instruction goes on where its condition does not hold. -/
theorem pc_ite {next : Word} (huntaken : untaken.pc = next) :
    c = false → (if c then taken else untaken).pc = next := by
  rintro rfl
  exact huntaken

end Conditional

/-- Settles O58: each form retires with its cost, PC past it or at its target; `HALT` does not retire. -/
theorem costAndLength : Obligations.CostAndLength := by
  unfold Obligations.CostAndLength
  intro i s t h
  have hhalt : i = .halt ↔ i.form = .halt := ⟨congrArg Instr.form, form_injective (j := .halt)⟩
  rw [exec_eq_execForm] at h
  rw [ne_eq, hhalt, show i.length = i.form.length from rfl]
  generalize i.form = f at h ⊢
  cases f with
  | stop | illegal => cases h
  | halt =>
    cases h
    exact ⟨fun _ => rfl, fun hne => absurd rfl hne, rfl⟩
  | jpCC | jrCC | callCC | retCC =>
    cases h
    exact ⟨nofun, fun _ => wait_ite rfl rfl, pc_ite rfl⟩
  | jpN16 | jpHL | jrE8 | callN16 | ret | reti | rst =>
    cases h
    exact ⟨nofun, fun _ => rfl, trivial⟩
  | _ =>
    cases h
    exact ⟨nofun, fun _ => rfl, rfl⟩

/-! ### Bus accesses -/

/-- If the result `r` of an instruction in `s` is a next state, it has put at most two accesses on the record. -/
def AtMostTwoAccesses (s : State) (r : Result) : Prop := ∀ t, r = .next t → t.accesses.length ≤ s.accesses.length + 2

namespace AtMostTwoAccesses

variable {s t t' : State} {x y : BusAccess}

theorem none (h : t.accesses = s.accesses) : AtMostTwoAccesses s (.next t) := by
  rintro _ ⟨⟩
  simp [h]

theorem one (h : t.accesses = s.accesses ++ [x]) : AtMostTwoAccesses s (.next t) := by
  rintro _ ⟨⟩
  simp [h]

theorem two (h : t.accesses = s.accesses ++ [x] ++ [y]) : AtMostTwoAccesses s (.next t) := by
  rintro _ ⟨⟩
  simp [h]

theorem ite {c : Prop} [Decidable c] (ht : AtMostTwoAccesses s (.next t)) (he : AtMostTwoAccesses s (.next t')) :
    AtMostTwoAccesses s (.next (if c then t else t')) := by
  split
  · exact ht
  · exact he

theorem fault (e : Fault) : AtMostTwoAccesses s (.fault e) := by
  rintro _ ⟨⟩

end AtMostTwoAccesses

theorem accumulate_accesses (op : AluOp) (y : Byte) (s : State) : (accumulate op y s).accesses = s.accesses := by
  rw [accumulate_eq]

open AtMostTwoAccesses in
/-- How often an instruction of each form uses the bus, its fetches apart. -/
theorem execForm_atMostTwoAccesses (f : Form) (s : State) : AtMostTwoAccesses s (execForm f s) := by
  cases f with
  -- 41_load8.md
  | ldR8R8 | ldR8N8 => exact none rfl
  | ldR8HL | ldABC | ldADE | ldAN16 | ldhAN8 | ldhAC | ldAHLInc | ldAHLDec => exact one rfl
  | ldHLR8 | ldHLN8 | ldBCA | ldDEA | ldN16A | ldhN8A | ldhCA | ldHLIncA | ldHLDecA => exact one rfl
  -- 42_load16_stack.md
  | ldR16N16 => exact none (State.setR16_accesses ..)
  | ldSPHL => exact none rfl
  | ldN16SP | push | pop => exact two rfl
  -- 43_arith8.md
  | aluR8 | aluN8 => exact none (accumulate_accesses ..)
  | aluHL => exact one (accumulate_accesses ..)
  | incR8 | decR8 | daa | cpl | scf | ccf => exact none rfl
  | incHL | decHL => exact two rfl
  -- 44_arith16.md
  | addHLR16 | addSPE8 | ldHLSPE8 => exact none rfl
  | incR16 | decR16 => exact none (State.setR16_accesses ..)
  -- 45_rotate_shift_bit.md
  | accRot | shiftR8 | bitR8 | resR8 | setR8 => exact none rfl
  | bitHL => exact one rfl
  | shiftHL | resHL | setHL => exact two rfl
  -- 46_control_flow.md
  | jpN16 | jpHL | jrE8 => exact none rfl
  | jpCC | jrCC => exact ite (none rfl) (none rfl)
  | callN16 | rst | ret | reti => exact two rfl
  | callCC | retCC => exact ite (two rfl) (none rfl)
  -- 47_system.md
  | nop | halt | di | ei => exact none rfl
  | stop | illegal => exact fault _

theorem dispatchInterrupt_atMostTwoAccesses (s : State) : AtMostTwoAccesses s (dispatchInterrupt s) := by
  cases hk : servicedSource s.enabledRequests with
  | none =>
    rw [dispatchInterrupt_fault hk]
    exact .fault _
  | some k =>
    rw [dispatchInterrupt_eq hk]
    exact .two rfl

/-- An instruction's fetches are at most three (R158). -/
theorem length_accesses_noteFetches (s : State) (n : Nat) :
    (s.noteFetches n).accesses.length = s.accesses.length + n := by
  simp [State.noteFetches_eq]

/-- CORE's step begins with an empty record and ends with at most three fetches and two other accesses on it. -/
theorem coreStep_accesses_le {s t : State} (hempty : s.accesses = []) (h : coreStep s = .next t) :
    t.accesses.length ≤ 5 := by
  have hawake : s.wake.accesses = [] := (State.wake_accesses s).trans hempty
  rcases coreStep_cases s with ⟨-, e⟩ | ⟨-, -, e⟩ | ⟨-, -, -, -, e⟩ | ⟨-, -, -, e⟩ <;> rw [e] at h
  · cases h
    simp [hempty]
  · cases h
    simp [hempty]
  · have htwice := dispatchInterrupt_atMostTwoAccesses s.wake t h
    rw [hawake, List.length_nil] at htwice
    omega
  · rw [executeInstruction, exec_eq_execForm] at h
    have htwice := execForm_atMostTwoAccesses _ _ t h
    have hlength := length_le_three s.wake.fetched
    rw [length_accesses_noteFetches, hawake, List.length_nil] at htwice
    omega

/-- Settles O19: a reset, a halted step with nothing pending and a busy step leave the record as the cycle begins with
it, which is empty. -/
theorem boundedBusAccesses : Obligations.BoundedBusAccesses := by
  unfold Obligations.BoundedBusAccesses
  intro s t h
  obtain ⟨-, -, -, -, -, -, -, -, hempty⟩ := s.beginCycle_frame
  cases hr : s.input.reset with
  | true =>
    rw [step_of_reset hr] at h
    cases h
    have hreset : s.beginCycle.coreReset.accesses = [] := hempty
    simp [hreset]
  | false =>
    refine ⟨?bound, nofun, ?halted, ?busy⟩
    case bound =>
      rw [step_of_no_reset hr] at h
      have := coreStep_accesses_le hempty h
      omega
    case halted =>
      intro hh hp
      rw [step_of_halted hr hh hp] at h
      cases h
      exact hempty
    case busy =>
      intro hh hw
      rw [step_of_busy hr hh hw] at h
      cases h
      exact hempty

/-! ### Reset -/

/-- Settles O15: the reset of CORE in the state its cycle begins in. -/
theorem resetLine : Obligations.ResetLine := by
  unfold Obligations.ResetLine
  intro s hr
  rw [step_of_reset hr]
  rfl

/-- CORE's own component is all zero after reset (R561, R564). -/
theorem eq_zero_of_reset_coreRead {a : Word} {v : Byte} (h : State.reset.coreRead a = some v) : v = 0x00 := by
  unfold State.coreRead at h
  split at h
  · cases h; rfl
  split at h
  · cases h; rfl
  split at h
  · cases h; rfl
  · cases h

/-- The RAM of the reset platform owns every address, and nothing is written in it. -/
theorem firstAnswer_reset_after (c : Nat) (f : Bool) (a : Word) :
    firstAnswer State.reset.after c f a = some 0x00 := by
  have howns : (Component.ram 0x0000 0xFFFF []).owns a = true := by
    have ha := a.isLt
    simp only [Component.owns, BitVec.le_def, Bool.and_eq_true, decide_eq_true_eq]
    exact ⟨Nat.zero_le _, Nat.le_of_lt_succ ha⟩
  have hanswer : (Component.ram 0x0000 0xFFFF []).read c f a = some 0x00 := if_pos howns
  simp only [State.reset, firstAnswer, hanswer]

/-- Settles O16: a byte comes from CORE's own component or from the RAM behind it, and in neither anything is written. -/
theorem resetValues : Obligations.ResetValues := by
  unfold Obligations.ResetValues
  refine ⟨fun r => by cases r <;> rfl, rfl, rfl, rfl, rfl, rfl, rfl, rfl, fun a => ?_⟩
  cases hcore : State.reset.coreRead a with
  | some v => exact (busRead_of_core rfl hcore).trans (eq_zero_of_reset_coreRead hcore)
  | none => exact busRead_of_after rfl hcore (firstAnswer_reset_after _ _ _)

end Sys2Proof.Proofs
end
